-- ==== Sys2Proof/Word.lean ====
section
/-! DEFINITION. The word types of the orcos display engine (spec 00 R7, 10 R24). -/

namespace Sys2Proof

/-- A byte of FB, SRC, a font bitmap or a frame. -/
abbrev Byte := BitVec 8

/-- A 16-bit operand field (10 R33 to R35). -/
abbrev Half := BitVec 16

/-- A 32-bit register or command word (10 R24, 30 R90). -/
abbrev Word := BitVec 32

end Sys2Proof
end

