-- ==== Sys2Proof/Config.lean ====
section
/-! DEFINITION. What an implementation of the ODE fixes: the constants of spec 00 section 4, the build parameters the
spec leaves OPEN (CHUNK_LINES, NUM_FONTS, FONTS: 00 R4, R5, 10 R23), and the model's uninterpreted constants. -/

namespace Sys2Proof

namespace Config

/-- WIDTH, 400 pixels (00 R2). -/
abbrev width : Nat := 400
/-- HEIGHT, 240 rows (00 R2). -/
abbrev height : Nat := 240
/-- ROW_BYTES = WIDTH / 8 (00 R2). -/
abbrev rowBytes : Nat := 50
/-- FB_BYTES = HEIGHT * ROW_BYTES (00 R2). -/
abbrev fbBytes : Nat := 12000
/-- SRC_SIZE (00 section 4, 10 R22). -/
abbrev srcSize : Nat := 16384
/-- OFF_TIMEOUT, in wake ticks (00 R3, 46 R311). -/
abbrev offTimeout : Nat := 300
/-- LIVE_CLOCK, the screen tag of the live clock screen (10 R45). -/
abbrev liveClock : BitVec 8 := 0x01#8

end Config

/-- One font table (10 R23). The sizes are stored less one, so that EVERY value of this type is a legal font:
1 <= W <= 255, 1 <= H <= 255, 1 <= COUNT <= 256. `bitmap` lists the first bytes of BITMAP; the bytes of BITMAP it does
not reach are 0x00 (log 6). -/
structure Font where
  widthLessOne : Fin 255
  heightLessOne : Fin 255
  countLessOne : Fin 256
  bitmap : List Byte
  deriving DecidableEq, Repr, Inhabited

/-- W_f, in pixels. -/
def Font.width (f : Font) : Nat := f.widthLessOne.val + 1
/-- H_f, in rows. -/
def Font.height (f : Font) : Nat := f.heightLessOne.val + 1
/-- COUNT_f, the number of glyphs. -/
def Font.count (f : Font) : Nat := f.countLessOne.val + 1

/-- The build parameters, the model's argument (10 R48). `chunkLessOne` is CHUNK_LINES less one, so every value is legal
(1..240, 00 R4). Of `fonts` only the first 255 exist (NUM_FONTS <= 255, 00 section 4). -/
structure Build where
  chunkLessOne : Fin 240
  fonts : List Font
  deriving DecidableEq, Repr, Inhabited

/-- CHUNK_LINES (00 R4). -/
def Build.chunkLines (b : Build) : Nat := b.chunkLessOne.val + 1
/-- NUM_FONTS (00 R5). -/
def Build.numFonts (b : Build) : Nat := min b.fonts.length 255

/-- The build of the machine that comes out of reset: OPEN in the spec (92 D22, D26), so uninterpreted here (log 5). -/
opaque Config.build : Build

/-- The bytes the spec leaves open: the n-th byte a host read draws (20 R79, 70 R382; log 7). -/
opaque Config.freeByte : Nat → BitVec 8

end Sys2Proof
end

