-- ==== Sys2Proof/Syntax.lean ====
section
/-! DEFINITION. The instructions: one constructor per row of spec/opcode_table.json. -/

namespace Sys2Proof

/-- What the ODE executes. The fourteen commands take no fields: their operands are the snapshot in the latch
(30 R94, 40 R132). -/
inductive Instr where
  /-- NOP, word 0x00 (44 R244). -/
  | nop
  /-- CLEAR, word 0x01 (44 R243). -/
  | clear
  /-- FILL, word 0x02 (44 R242). -/
  | fill
  /-- INVERT, word 0x03 (44 R240). -/
  | invert
  /-- TEST_PATTERN, word 0x04 (44 R241). -/
  | testPattern
  /-- DRAW_IMAGE, word 0x10 (41 R160). -/
  | drawImage
  /-- FILL_RECT, word 0x11 (42 R180). -/
  | fillRect
  /-- BITBLT24, word 0x12 (42 R182). -/
  | bitblt24
  /-- DRAW_CHAR, word 0x20 (43 R212). -/
  | drawChar
  /-- DRAW_STRING, word 0x21 (43 R213). -/
  | drawString
  /-- REFRESH, word 0x30 (45 R271). -/
  | refresh
  /-- WRITE_LINE, word 0x31 (45 R274). -/
  | writeLine
  /-- POWER_ON, word 0x40 (46 R301). -/
  | powerOn
  /-- POWER_OFF, word 0x41 (46 R303). -/
  | powerOff
  /-- ILLEGAL: a command word that no other row matches (30 R92, R93, 40 R139). -/
  | illegal (word : Word)
  /-- AUTO_OFF: the internal command; it has no word (46 R310). -/
  | autoOff
  /-- WIRE_PRIMING: the frame [0x00] (45 R273). -/
  | wirePriming
  /-- WIRE_CHUNK: the frame of `lines` rows from row `first` on (30 R104). -/
  | wireChunk (first lines : Nat)
  /-- WIRE_LINE: the frame of FB row `row` (30 R103). -/
  | wireLine (row : Nat)
  /-- WIRE_CLEAR: the frame [0x04, 0x00] (46 R304). -/
  | wireClear
  /-- KEEPALIVE_WRITE: a host write of `value` at offset 0x48 (46 R312). -/
  | keepaliveWrite (value : Word)
  /-- WAKE_TICK: one event of the wake source (46 R306). -/
  | wakeTick
  deriving DecidableEq, Repr

end Sys2Proof
end

