-- ==== Sys2Proof/WellFormed.lean ====
section
/-! DEFINITION. Which instructions the spec has: the checks on the fields of Instr. -/

namespace Sys2Proof

/-- The OP values of 30 R91. -/
def legalOps : List (BitVec 8) :=
  [0x00#8, 0x01#8, 0x02#8, 0x03#8, 0x04#8, 0x10#8, 0x11#8, 0x12#8, 0x20#8, 0x21#8, 0x30#8, 0x31#8, 0x40#8, 0x41#8]

/-- A command word the table matches: RSV = 0 and OP in 30 R91's map. -/
def legalWord (v : Word) : Bool :=
  v.extractLsb' 8 24 == 0#24 && legalOps.contains (v.extractLsb' 0 8)

/-- ILLEGAL holds only a word no other row matches (30 R92, R93). A chunk frame holds 1..240 rows of the panel (30 R104,
R105); a line frame one row 0..239 (30 R103). The bound n <= CHUNK_LINES of a chunk depends on the build and is checked
by its meaning. -/
def Instr.wellFormed : Instr → Bool
  | .nop => true
  | .clear => true
  | .fill => true
  | .invert => true
  | .testPattern => true
  | .drawImage => true
  | .fillRect => true
  | .bitblt24 => true
  | .drawChar => true
  | .drawString => true
  | .refresh => true
  | .writeLine => true
  | .powerOn => true
  | .powerOff => true
  | .illegal v => !legalWord v
  | .autoOff => true
  | .wirePriming => true
  | .wireChunk r0 n => decide (1 ≤ n) && decide (r0 + n ≤ Config.height)
  | .wireLine r => decide (r < Config.height)
  | .wireClear => true
  | .keepaliveWrite _ => true
  | .wakeTick => true

/-- An instruction the spec has. -/
abbrev WellFormed (i : Instr) : Prop := i.wellFormed = true

end Sys2Proof
end

