-- ==== Sys2Proof/Decode.lean ====
section
/-! DEFINITION. Decoding of command words (30 R90 to R93, 40 R139) and of wire frames (30 R102 to R105), and the
encoders written from the same tables. -/

namespace Sys2Proof

/-- The opcode map of 30 R91. -/
def opcodeMap : List (BitVec 8 × Instr) :=
  [(0x00#8, .nop), (0x01#8, .clear), (0x02#8, .fill), (0x03#8, .invert), (0x04#8, .testPattern),
   (0x10#8, .drawImage), (0x11#8, .fillRect), (0x12#8, .bitblt24),
   (0x20#8, .drawChar), (0x21#8, .drawString),
   (0x30#8, .refresh), (0x31#8, .writeLine),
   (0x40#8, .powerOn), (0x41#8, .powerOff)]

/-- OP, bits 7:0 of a command word (30 R90). -/
def opField (v : Word) : BitVec 8 := v.extractLsb' 0 8
/-- RSV, bits 31:8 of a command word (30 R90). -/
def rsvField (v : Word) : BitVec 24 := v.extractLsb' 8 24

/-- The row of the opcode map for an OP value. -/
def opLookup (op : BitVec 8) : List (BitVec 8 × Instr) → Option Instr
  | [] => none
  | (k, i) :: rest => if k = op then some i else opLookup op rest

/-- `Decode(v)` of 40 R139. Total: a word with RSV != 0 or an unassigned OP is rejected BY NAME, as ILLEGAL. -/
def decode (v : Word) : Instr :=
  if rsvField v = 0#24 then (opLookup (opField v) opcodeMap).getD (.illegal v) else .illegal v

/-- The command word of an instruction, or none for the rows that have none (AUTO_OFF, the frames, KEEPALIVE_WRITE,
WAKE_TICK). -/
def encode : Instr → Option Word
  | .nop => some 0x00000000#32
  | .clear => some 0x00000001#32
  | .fill => some 0x00000002#32
  | .invert => some 0x00000003#32
  | .testPattern => some 0x00000004#32
  | .drawImage => some 0x00000010#32
  | .fillRect => some 0x00000011#32
  | .bitblt24 => some 0x00000012#32
  | .drawChar => some 0x00000020#32
  | .drawString => some 0x00000021#32
  | .refresh => some 0x00000030#32
  | .writeLine => some 0x00000031#32
  | .powerOn => some 0x00000040#32
  | .powerOff => some 0x00000041#32
  | .illegal v => some v
  | .autoOff => none
  | .wirePriming => none
  | .wireChunk _ _ => none
  | .wireLine _ => none
  | .wireClear => none
  | .keepaliveWrite _ => none
  | .wakeTick => none

/-- The instruction my decoder reads from a table row's word: a command is one 32-bit word (30 R90, R108), so a row of
more than 32 bits is none. -/
def decodeTableWord (nbits w : Nat) : Option Instr :=
  if nbits ≤ 32 then some (decode (BitVec.ofNat 32 (w % 2 ^ nbits))) else none

/-! ## Wire frames -/

/-- The line number byte of FB row `r`: 1-based (45 R275). -/
def lineNumber (r : Nat) : Byte := BitVec.ofNat 8 (r + 1)

/-- The priming frame (45 R273). -/
def primingFrame : List Byte := [0x00#8]

/-- The clear frame (30 R102, R105). -/
def clearFrame : List Byte := [0x04#8, 0x00#8]

/-- The single-line frame of row `r` with data `data` (30 R103). -/
def lineFrame (r : Nat) (data : List Byte) : List Byte :=
  [0x01#8, lineNumber r] ++ data ++ [0x00#8, 0x00#8]

/-- The 52 bytes of one line of a chunk (30 R104). -/
def chunkLine (r : Nat) (data : List Byte) : List Byte :=
  lineNumber r :: (data ++ [0x00#8])

/-- The chunk frame of `n` rows from `first`, row r carrying `rowData r` (30 R104). -/
def chunkFrame (first n : Nat) (rowData : Nat → List Byte) : List Byte :=
  0x01#8 :: ((List.range n).flatMap (fun k => chunkLine (first + k) (rowData (first + k))) ++ [0x00#8])

/-- The frame an instruction hands to the transport when row r of FB holds `rowData r`, or none for the rows that are no
frame. -/
def encodeFrame (rowData : Nat → List Byte) : Instr → Option (List Byte)
  | .nop => none
  | .clear => none
  | .fill => none
  | .invert => none
  | .testPattern => none
  | .drawImage => none
  | .fillRect => none
  | .bitblt24 => none
  | .drawChar => none
  | .drawString => none
  | .refresh => none
  | .writeLine => none
  | .powerOn => none
  | .powerOff => none
  | .illegal _ => none
  | .autoOff => none
  | .wirePriming => some primingFrame
  | .wireChunk r0 n => some (chunkFrame r0 n rowData)
  | .wireLine r => some (lineFrame r (rowData r))
  | .wireClear => some clearFrame
  | .keepaliveWrite _ => none
  | .wakeTick => none

/-- Why a byte list is no frame of the ODE. -/
inductive FrameError where
  /-- No byte at all. -/
  | empty
  /-- The first byte is none of 0x00, 0x01, 0x04 (30 R102). -/
  | unknownCommand (b : Byte)
  /-- The length is none that 30 R105 gives for the first byte. -/
  | badLength
  /-- A line number outside 1..240, or one that does not follow the line before it. -/
  | badLineNumber
  /-- A trailer byte that is not 0x00, or a clear frame whose second byte is not 0x00. -/
  | badTrailer
  deriving DecidableEq, Repr

/-- Reads `n` lines of a chunk, the first expected to be row `r`; gives the bytes after them. -/
def readChunkLines : (n r : Nat) → List Byte → Except FrameError (List Byte)
  | 0, _, rest => .ok rest
  | n + 1, r, bytes =>
    if r < Config.height ∧ bytes.head? = some (lineNumber r) then
      match bytes.drop 51 with
      | [] => .error .badLength
      | t :: rest => if t = 0x00#8 then readChunkLines n (r + 1) rest else .error .badTrailer
    else .error .badLineNumber

/-- The row a line number byte names, if it is one of 1..240 (45 R275). -/
def rowOfLine (b : Byte) : Option Nat :=
  if 1 ≤ b.toNat ∧ b.toNat ≤ Config.height then some (b.toNat - 1) else none

/-- A frame of first byte 0x01, given the bytes after it: 53 of them make a single-line frame, otherwise 1 + 52 n make a
chunk of n lines (30 R103 to R105). -/
def decodeWriteFrame (bytes : List Byte) : Except FrameError Instr :=
  match bytes with
  | [] => .error .badLength
  | b :: _ =>
    match rowOfLine b with
    | none => .error .badLineNumber
    | some r =>
      if bytes.length = 53 then
        if bytes.drop 51 = [0x00#8, 0x00#8] then .ok (.wireLine r) else .error .badTrailer
      else if bytes.length % 52 = 1 ∧ 1 < bytes.length then
        match readChunkLines (bytes.length / 52) r bytes with
        | .error e => .error e
        | .ok rest => if rest = [0x00#8] then .ok (.wireChunk r (bytes.length / 52)) else .error .badTrailer
      else .error .badLength

/-- The frame a receiver reads from a byte list: "A receiver tells the frame kind by its first byte and its length"
(30 R105). Total, rejecting by name. A chunk of one line is byte for byte a line frame (45 R278) and is read as one. -/
def decodeFrame : List Byte → Except FrameError Instr
  | [] => .error .empty
  | b :: rest =>
    if b = 0x00#8 then (if rest = [] then .ok .wirePriming else .error .badLength)
    else if b = 0x04#8 then
      (if rest = [0x00#8] then .ok .wireClear else if rest.length = 1 then .error .badTrailer else .error .badLength)
    else if b = 0x01#8 then decodeWriteFrame rest
    else .error (.unknownCommand b)

end Sys2Proof
end

