-- ==== Sys2Proof/Machine/State.lean ====
section
/-! DEFINITION. The state of the ODE (spec 10 R48), the reasons a step can stop, and the state after reset. -/

namespace Sys2Proof.Machine

/-- FB or SRC: the listed bytes, addresses strictly rising, no entry equal to what an unlisted address reads as. -/
abbrev Memory := List Host.Cell

/-- The four outputs (10 R41). -/
inductive Pin where
  | boostEn
  | dispEn
  | extcominEn
  | wakeArm
  deriving DecidableEq, Repr

/-- The levels of the four outputs, true = 1 = asserted (10 R41). -/
structure PinLevels where
  boostEn : Bool
  dispEn : Bool
  extcominEn : Bool
  wakeArm : Bool
  deriving DecidableEq, Repr

/-- The operand snapshot of 40 R132, fields as 30 R95 to R100 cut them out. -/
structure Snapshot where
  x : Half
  y : Half
  w : Half
  h : Half
  src : Half
  data : Word
  color : BitVec 2
  order : Bool
  bltop : BitVec 2
  force : Bool
  clr : Bool
  font : BitVec 8
  deriving DecidableEq, Repr

/-- LATCH (10 R46): none, an accepted host command with its snapshot, or the internal AUTO_OFF. -/
inductive Latch where
  | empty
  | host (word : Word) (ops : Snapshot)
  | autoOff
  deriving DecidableEq, Repr

/-- The command error codes (60 R340). -/
inductive ErrCode where
  | none
  | illegal
  | badArg
  | srcRange
  | glyphRange
  deriving DecidableEq, Repr

/-- The size of a host access: 1, 2 or 4 bytes (20 R60). -/
inductive Size where
  | b1
  | b2
  | b4
  deriving DecidableEq, Repr

/-- One host access: a byte offset in the 64 KiB window, a size, a direction, and data for a write (20 R60). -/
inductive Access where
  | read (off : Half) (size : Size)
  | write (off : Half) (size : Size) (data : Word)
  deriving DecidableEq, Repr

/-- The reply to a host access: OKAY or SLVERR, and for a read the data (20 R60). -/
structure BusReply where
  slverr : Bool
  data : Option Word
  deriving DecidableEq, Repr

/-- FAILAT: none is NONE, `some k` a failure at draw point k of a power sequence (46 R302, R304, R316). -/
abbrev FailAt := Option (Fin 5)

/-- What can happen next (40 R130). The list of the events to come is the model's own (log 1). -/
inductive Event where
  /-- A host access. -/
  | access (a : Access)
  /-- One WAKE_TICK event. -/
  | tick
  /-- The engine execute step, if it is enabled. -/
  | engine
  /-- The host polls STATUS until it reads BUSY = 0 (WAIT of 30 R107). -/
  | poll
  /-- RST_N is asserted and released (70 R380). -/
  | reset
  /-- The peripheral-failure indication changes (10 R42, 46 R316). -/
  | periph (f : FailAt)
  deriving DecidableEq, Repr

/-- Why the machine stops with a fault. -/
inductive Fault where
  /-- The engine reads an SRC byte never written since reset (41 R168). Raised by DRAW_IMAGE and DRAW_STRING. Safe: the
  spec names this stop, and the hardware goes on with some value. -/
  | unwrittenSource
  /-- FATAL = 1 and nothing but the halted engine is left to run (46 R317, 60 R355). Raised by a step with no event to
  come, and by every engine command asked for while FATAL = 1. Safe: the spec names this a fault outcome. -/
  | fatalHalt
  deriving DecidableEq, Repr

/-- Why an instruction is given no meaning in a state. -/
inductive Refusal where
  /-- The instruction has no meaning yet. Raised by exec's arms only. Safe. -/
  | notModelled (mnemonic : String)
  /-- An engine command is asked for while nothing of its kind is latched: the engine step is not enabled (40 R130,
  R135). Raised by the meanings of the commands and of AUTO_OFF. Safe: no step of the machine asks for it. -/
  | notLatched
  /-- A wire frame of rows the panel does not have, or of more lines than CHUNK_LINES (30 R103 to R105). Raised by
  WIRE_CHUNK and WIRE_LINE on ill-formed operands. Safe: the ODE sends no such frame. -/
  | noSuchFrame
  deriving DecidableEq, Repr

/-- The state (10 R48), and after it the model's own fields. -/
structure State where
  /-- FB; an unlisted byte is 0x00 (10 R20, 70 R381). -/
  fb : Memory
  /-- SRC; an unlisted byte is unwritten (10 R22, 70 R382). -/
  src : Memory
  /-- LAST_CMD (10 R29). -/
  lastCmd : Word
  /-- LATCH (10 R46). -/
  latch : Latch
  /-- STATUS.ERR (10 R30). -/
  err : ErrCode
  /-- STATUS.ON (46 R300). -/
  isOn : Bool
  /-- STATUS.FATAL (46 R316). -/
  fatal : Bool
  /-- STATUS.TICK_PEND (46 R308). -/
  tickPend : Bool
  /-- IRQ_STATUS[5:0] (10 R31). -/
  irqStatus : BitVec 6
  /-- IRQ_EN[5:0] (10 R32). -/
  irqEn : BitVec 6
  /-- ARG_X[15:0] (10 R33). -/
  argX : Half
  /-- ARG_Y[15:0] (10 R33). -/
  argY : Half
  /-- ARG_W[15:0] (10 R34). -/
  argW : Half
  /-- ARG_H[15:0] (10 R34). -/
  argH : Half
  /-- ARG_SRC[15:0] (10 R35). -/
  argSrc : Half
  /-- ARG_DATA (10 R36). -/
  argData : Word
  /-- ARG_MODE; its reserved bits stay 0 (10 R37). -/
  argMode : Word
  /-- ARG_FONT[7:0] (10 R38). -/
  argFont : BitVec 8
  /-- RESULT (10 R39). -/
  result : Word
  /-- IDLE[15:0] (10 R40). -/
  idle : Half
  /-- SCREEN[7:0] (10 R45). -/
  screen : BitVec 8
  /-- The four output levels (10 R41). -/
  pins : PinLevels
  /-- PINLOG, oldest first (10 R41). -/
  pinLog : List (Pin × Bool)
  /-- TXLOG, oldest frame first (10 R47). -/
  txLog : List (List Byte)
  /-- The model's: the build parameters, written by no step (10 R48; log 5). -/
  build : Build
  /-- The model's: the level of the peripheral-failure indication, the FAILAT draw (46 R316; log 4). -/
  periph : FailAt
  /-- The model's: the events to come, next first (log 1). -/
  agenda : List Event
  /-- The model's: the replies given to the host, oldest first (log 9). -/
  busLog : List BusReply
  /-- The model's: how many free bytes have been drawn (log 7). -/
  draws : Nat
  deriving DecidableEq, Repr

/-- All four outputs at one level. -/
def PinLevels.all (v : Bool) : PinLevels := ⟨v, v, v, v⟩

/-- The machine right after the reset that starts a run (70 R380 to R383). -/
def State.reset : State where
  fb := []
  src := []
  lastCmd := 0#32
  latch := .empty
  err := .none
  isOn := false
  fatal := false
  tickPend := false
  irqStatus := 0#6
  irqEn := 0#6
  argX := 0#16
  argY := 0#16
  argW := 0#16
  argH := 0#16
  argSrc := 0#16
  argData := 0#32
  argMode := 0#32
  argFont := 0#8
  result := 0#32
  idle := 0#16
  screen := 0#8
  pins := PinLevels.all false
  pinLog := []
  txLog := []
  build := Config.build
  periph := none
  agenda := []
  busLog := []
  draws := 0

end Sys2Proof.Machine
end

