-- ==== Sys2Proof/Machine/Ops.lean ====
section
/-! DEFINITION. The named operations over memory and state that every meaning is written with: bytes and pixels
(spec 00 R9, 40 R140 to R143), pins and frames (00 R9), interrupts (10 R31), issue and completion (40 R131 to R136),
the peripheral failure (46 R316), and reset (70 R380). -/

namespace Sys2Proof.Machine

/-! ## Memory -/

/-- The byte listed at an address. -/
def Memory.find (a : Nat) : Memory → Option Byte
  | [] => none
  | c :: m => if c.1 = a then some c.2 else Memory.find a m

/-- Lists byte `b` at address `a`, in its place in rising order. -/
def Memory.put (a : Nat) (b : Byte) : Memory → Memory
  | [] => [(a, b)]
  | c :: m =>
    if a < c.1 then (a, b) :: c :: m
    else if c.1 = a then (a, b) :: m
    else c :: Memory.put a b m

/-- Lists nothing at address `a`. -/
def Memory.del (a : Nat) (m : Memory) : Memory := m.filter (fun c => c.1 != a)

/-- Addresses strictly rise. -/
def Memory.rising : Memory → Bool
  | [] => true
  | [_] => true
  | c :: d :: m => decide (c.1 < d.1) && Memory.rising (d :: m)

/-- The canonical form: addresses rise, each is below `size`, and no entry equals what an unlisted address reads as. -/
def Memory.wf (size : Nat) (blank : Option Byte) (m : Memory) : Bool :=
  Memory.rising m && m.all (fun c => decide (c.1 < size) && some c.2 != blank)

/-- What an unlisted FB address reads as: the reset contents (70 R381). -/
abbrev fbBlank : Option Byte := some 0x00#8
/-- What an unlisted SRC address reads as: no value, the byte is unwritten (70 R382). -/
abbrev srcBlank : Option Byte := none

/-- `MemRead(FB, a, 1)`. -/
def fbRead (m : Memory) (a : Nat) : Byte := (Memory.find a m).getD 0x00#8

/-- `MemWrite(FB, a, 1, b)`. -/
def fbWrite (a : Nat) (b : Byte) (m : Memory) : Memory :=
  if b = 0x00#8 then Memory.del a m else Memory.put a b m

/-- `MemRead(SRC, a, 1)`: none while the byte is unwritten. -/
def srcRead (m : Memory) (a : Nat) : Option Byte := Memory.find a m

/-- `MemWrite(SRC, a, 1, b)`. -/
def srcWrite (a : Nat) (b : Byte) (m : Memory) : Memory := Memory.put a b m

/-- The FB whose byte at each address 0..11,999 is given. -/
def fbTabulate (f : Nat → Byte) : Memory :=
  ((List.range Config.fbBytes).map (fun a => (a, f a))).filter (fun c => c.2 != 0x00#8)

/-- `FBRow(r)` (00 R9). -/
def fbRow (m : Memory) (r : Nat) : List Byte :=
  (List.range Config.rowBytes).map (fun k => fbRead m (r * Config.rowBytes + k))

/-- Byte `i` of a little-endian datum (20 R65). -/
def byteOf (v : Word) (i : Nat) : Byte := v.extractLsb' (8 * i) 8

/-- The little-endian datum of up to four bytes, the first in bits 7:0 (20 R65). -/
def wordOf : List Byte → Word
  | [] => 0#32
  | b :: bs => b.setWidth 32 ||| (wordOf bs <<< 8)

/-! ## Pixels -/

/-- `OnScreen(px, py)` (40 R140). -/
abbrev OnScreen (px py : Int) : Prop := 0 ≤ px ∧ px < Config.width ∧ 0 ≤ py ∧ py < Config.height

/-- The FB byte of an on-screen pixel (10 R21). -/
def pixelAddr (px py : Int) : Nat := py.toNat * Config.rowBytes + px.toNat / 8

/-- The bit of its byte that holds a pixel, MSB-first (10 R21). -/
def pixelBit (px : Int) : Nat := 7 - px.toNat % 8

/-- `GetPixel(px, py)` (40 R141), meaningful on screen only. -/
def getPixel (m : Memory) (px py : Int) : Bool := (fbRead m (pixelAddr px py)).getLsbD (pixelBit px)

/-- A byte with bit `k` set to `v`. -/
def withBit (b : Byte) (k : Nat) (v : Bool) : Byte :=
  if v then b ||| (1#8 <<< k) else b &&& ~~~(1#8 <<< k)

/-- `PutPixel(px, py, b)` (40 R142): off screen, nothing. -/
def putPixel (px py : Int) (v : Bool) (m : Memory) : Memory :=
  if OnScreen px py then
    fbWrite (pixelAddr px py) (withBit (fbRead m (pixelAddr px py)) (pixelBit px) v) m
  else m

/-- The pixel operations of 40 R143. -/
inductive PixOp where
  | setop
  | clrop
  | xorop
  | or
  | andn
  | xor
  deriving DecidableEq, Repr

/-- The new pixel from the old one `d` and the source bit `s` (40 R143). -/
def combine (op : PixOp) (d s : Bool) : Bool :=
  match op with
  | .setop => true
  | .clrop => false
  | .xorop => !d
  | .or => d || s
  | .andn => d && !s
  | .xor => d != s

/-- `Apply(op, px, py, s)` (40 R143): off screen, nothing. -/
def applyPixel (op : PixOp) (px py : Int) (s : Bool) (m : Memory) : Memory :=
  if OnScreen px py then putPixel px py (combine op (getPixel m px py) s) m else m

/-- The least multiple of 8 that is at least `v` (00 R8). -/
def ceil8 (v : Int) : Int := 8 * ((v + 7) / 8)

/-- Bytes per row of a packed image `w` pixels wide, ceil(w/8) (00 R8, 41 R162). -/
def strideOf (w : Nat) : Nat := (w + 7) / 8

/-- `BlitImage` (41 R161) of the image whose byte at offset `i` is `byteAt i`: OR for SET, AND-NOT for EMPTY; `lsb` is
ORDER. -/
def blitImage (byteAt : Nat → Byte) (w h : Nat) (x y : Int) (set lsb : Bool) (m : Memory) : Memory :=
  (List.range h).foldl (fun m (dy : Nat) =>
    (List.range w).foldl (fun m (dx : Nat) =>
      applyPixel (if set then .or else .andn) (x + dx) (y + dy)
        ((byteAt (dy * strideOf w + dx / 8)).getLsbD (if lsb then dx % 8 else 7 - dx % 8)) m) m) m

/-- The coordinates below `limit` among lo, lo+1, ..., lo+len-1: what clipping leaves of one axis (40 R142). -/
def onAxis (lo : Int) (len limit : Nat) : List Nat :=
  (List.range limit).filter (fun p => decide (lo ≤ (p : Int)) && decide ((p : Int) < lo + len))

/-- `Apply(op, ., ., 0)` on the rectangle of `w` by `h` pixels at (x, y) (42 R180). The loops run over the pixels on screen
only; on the others Apply does nothing (log 21). -/
def applyRect (op : PixOp) (x y : Int) (w h : Nat) (m : Memory) : Memory :=
  (onAxis y h Config.height).foldl (fun m (py : Nat) =>
    (onAxis x w Config.width).foldl (fun m (px : Nat) => applyPixel op px py false m) m) m

/-- The byte whose bit 7 - i is `g i` (10 R21). -/
def byteOfPixels (g : Nat → Bool) : Byte :=
  (List.range 8).foldl (fun b i => withBit b (7 - i) (g i)) 0x00#8

/-- The FB whose pixel (px, py) is `g px py`: PutPixel of every pixel of the screen, whatever FB held. -/
def fbOfPixels (g : Nat → Nat → Bool) : Memory :=
  fbTabulate (fun a => byteOfPixels (fun i => g (8 * (a % Config.rowBytes) + i) (a / Config.rowBytes)))

/-! ## State -/

/-- STATUS.BUSY: LATCH is not none (10 R46). -/
def State.busy (s : State) : Bool := s.latch != .empty

/-- STATUS.INTERNAL: LATCH holds AUTO_OFF (10 R46). -/
def State.internal (s : State) : Bool := s.latch == .autoOff

/-- `Transmit(frame)` (45 R270). -/
def State.transmit (frame : List Byte) (s : State) : State := { s with txLog := s.txLog ++ [frame] }

/-- `Transmit` of each frame in order (45 R270). -/
def State.transmitAll (frames : List (List Byte)) (s : State) : State := { s with txLog := s.txLog ++ frames }

/-- Gives the host the reply to its access (20 R60). -/
def State.reply (r : BusReply) (s : State) : State := { s with busLog := s.busLog ++ [r] }

/-- Sets IRQ_STATUS bit `i` (10 R31). -/
def State.raise (i : Nat) (s : State) : State := { s with irqStatus := s.irqStatus ||| (1#6 <<< i) }

/-- `SetPin(P, v)` (10 R41): the level, and the pair in PINLOG even when the level does not change. -/
def State.setPin (p : Pin) (v : Bool) (s : State) : State :=
  { s with
    pins := match p with
      | .boostEn => { s.pins with boostEn := v }
      | .dispEn => { s.pins with dispEn := v }
      | .extcominEn => { s.pins with extcominEn := v }
      | .wakeArm => { s.pins with wakeArm := v }
    pinLog := s.pinLog ++ [(p, v)] }

/-- `Fatal()` (46 R316): LATCH, pins and ON stay. -/
def State.halt (s : State) : State := { s with fatal := true }

/-- IRQ_STATUS bit numbers (10 R31). -/
abbrev irqDone : Nat := 0
/-- ERR. -/
abbrev irqErr : Nat := 1
/-- DIRTY. -/
abbrev irqDirty : Nat := 2
/-- AUTOOFF. -/
abbrev irqAutoOff : Nat := 3
/-- OVR. -/
abbrev irqOvr : Nat := 4
/-- TOVF. -/
abbrev irqTovf : Nat := 5

/-- `ProcessTick()` (46 R309): the redraw test, then the increment, then the timeout test. -/
def processTick (s : State) : State :=
  let s := if s.screen = Config.liveClock then s.raise irqDirty else s
  let s := { s with idle := s.idle + 1#16 }
  if Config.offTimeout ≤ s.idle.toNat then { s with latch := .autoOff } else s

/-- `ServicePendingTick()` (46 R318). -/
def servicePendingTick (s : State) : State :=
  if s.tickPend then
    let s := { s with tickPend := false }
    if s.isOn && !s.busy then processTick s else s
  else s

/-- `CompleteHost(err)` (40 R136): the ODE's one way to report a command error (60 R341, R347). -/
def completeHost (e : ErrCode) (s : State) : State :=
  let s := { s with latch := .empty }
  let s := s.raise irqDone
  if e = .none then s else ({ s with err := e }).raise irqErr

/-- `CompleteInternal()` (40 R136). -/
def completeInternal (s : State) : State := ({ s with latch := .empty }).raise irqAutoOff

/-- The end of an engine step of a host command: nothing after a peripheral failure, otherwise completion and the pending
tick (40 R135). -/
def finishHost (e : ErrCode) (s : State) : State :=
  if s.fatal then s else servicePendingTick (completeHost e s)

/-- The end of an engine step of AUTO_OFF (40 R135, 46 R310). -/
def finishInternal (s : State) : State :=
  if s.fatal then s else servicePendingTick (completeInternal s)

/-- The engine execute step of a host command (40 R135) whose `Perform` on the snapshot is given: it stops while FATAL = 1
(46 R317) and is not enabled unless a host command is latched (40 R130). -/
def runHost (s : State) (perform : Snapshot → State × ErrCode) : Host.Outcome State Fault Refusal :=
  if s.fatal then .fault .fatalHalt
  else match s.latch with
    | .host _ a => .next (finishHost (perform a).2 (perform a).1)
    | .empty => .refused .notLatched
    | .autoOff => .refused .notLatched

/-- The same for a command that reads SRC and so can meet an unwritten byte: its `Perform` gives none then (41 R168). -/
def runHostSrc (s : State) (perform : Snapshot → Option (State × ErrCode)) : Host.Outcome State Fault Refusal :=
  if s.fatal then .fault .fatalHalt
  else match s.latch with
    | .host _ a =>
      match perform a with
      | some r => .next (finishHost r.2 r.1)
      | none => .fault .unwrittenSource
    | .empty => .refused .notLatched
    | .autoOff => .refused .notLatched

/-- The level changes RST_N makes, in the order of 70 R383: only pins that were 1 fall. -/
def resetFalls (p : PinLevels) : List (Pin × Bool) :=
  (if p.dispEn then [(.dispEn, false)] else []) ++ (if p.extcominEn then [(.extcominEn, false)] else []) ++
    (if p.boostEn then [(.boostEn, false)] else []) ++ (if p.wakeArm then [(.wakeArm, false)] else [])

/-- The reset step during a run (70 R380 to R384): every field at its reset value; TXLOG and PINLOG are kept, PINLOG with
the pins that fall; the build, and what stands outside the block, stay (log 14). -/
def resetStep (s : State) : State :=
  { State.reset with
    pinLog := s.pinLog ++ resetFalls s.pins
    txLog := s.txLog
    build := s.build
    periph := s.periph
    agenda := s.agenda
    busLog := s.busLog
    draws := s.draws }

end Sys2Proof.Machine
end

