-- ==== Sys2Proof/Machine/Flags.lean ====
section
/-! DEFINITION. The status the ODE computes: STATUS (spec 10 R30), the error codes (60 R340), the IRQ output (10 R43), and
quiescence (40 R146). -/

namespace Sys2Proof.Machine

/-- The number of an error code (60 R340). -/
def ErrCode.code : ErrCode → BitVec 4
  | .none => 0#4
  | .illegal => 1#4
  | .badArg => 2#4
  | .srcRange => 3#4
  | .glyphRange => 4#4

/-- A word whose one bit `i` is `b`. -/
def bitAt (b : Bool) (i : Nat) : Word := (BitVec.ofBool b).setWidth 32 <<< i

/-- STATUS (10 R30). -/
def statusWord (s : State) : Word :=
  bitAt s.busy 0 ||| bitAt s.isOn 1 ||| bitAt s.fatal 2 ||| bitAt s.tickPend 3 ||| bitAt s.internal 4 |||
    (s.err.code.setWidth 32 <<< 8) ||| bitAt s.pins.boostEn 16 ||| bitAt s.pins.dispEn 17 |||
    bitAt s.pins.extcominEn 18 ||| bitAt s.pins.wakeArm 19

/-- The IRQ output: high while some enabled bit is pending (10 R43, 60 R345). -/
def irqOut (s : State) : Bool := s.irqStatus &&& s.irqEn != 0#6

/-- Quiescent: no engine step enabled and no held event (40 R146). -/
def quiescent (s : State) : Bool := !s.busy && !s.tickPend && !s.fatal

end Sys2Proof.Machine
end

