-- ==== Sys2Proof/Machine/Operands.lean ====
section
/-! DEFINITION. The operands of the commands (spec 30 R94 to R100): the snapshot taken at acceptance (40 R131, R132), and
each operand as the command reads it. -/

namespace Sys2Proof.Machine

/-- The bits of ARG_MODE that can be written (10 R37). -/
abbrev modeMask : Word := 0x00000177#32

/-- `Snapshot()` (40 R132): the operand fields of 30 R95 to R100, cut from the ARG registers. -/
def snapshotOf (s : State) : Snapshot where
  x := s.argX
  y := s.argY
  w := s.argW
  h := s.argH
  src := s.argSrc
  data := s.argData
  color := s.argMode.extractLsb' 0 2
  order := s.argMode.getLsbD 2
  bltop := s.argMode.extractLsb' 4 2
  force := s.argMode.getLsbD 6
  clr := s.argMode.getLsbD 8
  font := s.argFont

/-- A CMD write of `v` accepted (40 R131). -/
def State.accept (v : Word) (s : State) : State :=
  { s with lastCmd := v, latch := .host v (snapshotOf s), err := .none }

/-- A.X, signed (30 R95). -/
def Snapshot.xInt (a : Snapshot) : Int := a.x.toInt
/-- A.Y, signed (30 R95). -/
def Snapshot.yInt (a : Snapshot) : Int := a.y.toInt
/-- A.W, unsigned (30 R96). -/
def Snapshot.wNat (a : Snapshot) : Nat := a.w.toNat
/-- A.H, unsigned (30 R96). -/
def Snapshot.hNat (a : Snapshot) : Nat := a.h.toNat
/-- A.SRC, unsigned (30 R97). -/
def Snapshot.srcNat (a : Snapshot) : Nat := a.src.toNat
/-- The run value A.DATA[23:0] of BITBLT24 (30 R98). -/
def Snapshot.run (a : Snapshot) : BitVec 24 := a.data.extractLsb' 0 24
/-- The character code A.DATA[7:0] of DRAW_CHAR (30 R98). -/
def Snapshot.code (a : Snapshot) : Nat := (a.data.extractLsb' 0 8).toNat
/-- The square size of TEST_PATTERN, all of A.DATA unsigned (30 R98). -/
def Snapshot.square (a : Snapshot) : Nat := a.data.toNat
/-- A.FONT (30 R100). -/
def Snapshot.fontId (a : Snapshot) : Nat := a.font.toNat
/-- COLOR is one of 0 EMPTY, 1 SET (30 R99). -/
def Snapshot.twoColor (a : Snapshot) : Bool := a.color == 0#2 || a.color == 1#2
/-- COLOR is 1 SET. -/
def Snapshot.isSet (a : Snapshot) : Bool := a.color == 1#2

end Sys2Proof.Machine
end

