-- ==== Sys2Proof/Machine/Power.lean ====
section
/-! DEFINITION. The power and timeout controller (spec 46): POWER_ON, POWER_OFF, AUTO_OFF, WAKE_TICK and the KEEPALIVE
write. Delay(t) changes no state (00 R9). -/

namespace Sys2Proof.Machine

/-- One stage of a power sequence: a failure drawn at point `k` halts before it, otherwise `act` and then the rest
(46 R302, R304, R316). -/
def powerStage (k : Nat) (act rest : State → State) (s : State) : State :=
  if s.periph.map Fin.val = some k then s.halt else rest (act s)

/-- `PowerOnSeq()` (46 R302); the draw FAILAT is the level of `periph` (log 4). -/
def powerOnSeq : State → State :=
  powerStage 0 (State.setPin .boostEn true)
    (powerStage 1 (State.setPin .dispEn true)
      (powerStage 2 (State.setPin .extcominEn true)
        (powerStage 3 (State.setPin .wakeArm true)
          (fun s => { s with isOn := true, idle := 0#16 }))))

/-- `PowerOffSeq(clr)` (46 R304). -/
def powerOffSeq (clr : Bool) : State → State :=
  powerStage 0 (fun s => if clr then s.transmit clearFrame else s)
    (powerStage 1 (State.setPin .dispEn false)
      (powerStage 2 (State.setPin .extcominEn false)
        (powerStage 3 (State.setPin .boostEn false)
          (powerStage 4 (State.setPin .wakeArm false)
            (fun s => { s with isOn := false, tickPend := false })))))

/-- POWER_ON (46 R301). -/
def execPowerOn (s : State) : Host.Outcome State Fault Refusal := runHost s fun _ => (powerOnSeq s, .none)

/-- POWER_OFF (46 R303): while OFF, no effect (R305). -/
def execPowerOff (s : State) : Host.Outcome State Fault Refusal :=
  runHost s fun a => (if s.isOn then powerOffSeq a.clr s else s, .none)

/-- AUTO_OFF (46 R310): the panel is cleared first; completion is internal (40 R136). -/
def execAutoOff (s : State) : Host.Outcome State Fault Refusal :=
  if s.fatal then .fault .fatalHalt
  else if s.internal then .next (finishInternal (powerOffSeq true s))
  else .refused .notLatched

/-- `OnWakeTick()` (46 R306 to R308). -/
def onWakeTick (s : State) : State :=
  if s.fatal then s
  else if !s.isOn then s
  else if s.busy then (if s.tickPend then s.raise irqTovf else { s with tickPend := true })
  else processTick s

/-- WAKE_TICK (46 R306). -/
def execWakeTick (s : State) : Host.Outcome State Fault Refusal := .next (onWakeTick s)

/-- The effect of a KEEPALIVE write (46 R312): ignored while FATAL = 1. -/
def keepAlive (s : State) : State := if s.fatal then s else { s with idle := 0#16 }

/-- KEEPALIVE_WRITE (46 R312): the value is ignored, and the bus answers OKAY. -/
def execKeepaliveWrite (_value : Word) (s : State) : Host.Outcome State Fault Refusal :=
  .next ((keepAlive s).reply ⟨false, none⟩)

end Sys2Proof.Machine
end

