-- ==== Sys2Proof/Machine/Bus.lean ====
section
/-! DEFINITION. The host's accesses to the 64 KiB window (spec 20), and the register map (spec 10 R24 to R45). -/

namespace Sys2Proof.Machine

/-- The host registers (10 R24). -/
inductive Reg where
  | id
  | geom
  | param
  | srcSize
  | cmd
  | status
  | irqStatus
  | irqEn
  | argX
  | argY
  | argW
  | argH
  | argSrc
  | argData
  | argMode
  | argFont
  | result
  | idle
  | keepalive
  | screen
  | reserved
  deriving DecidableEq, Repr

/-- The register at a word offset (10 R24); 0x50..0xFC are reserved (20 R61). -/
def regAt (off : Nat) : Reg :=
  match off with
  | 0x00 => .id
  | 0x04 => .geom
  | 0x08 => .param
  | 0x0C => .srcSize
  | 0x10 => .cmd
  | 0x14 => .status
  | 0x18 => .irqStatus
  | 0x1C => .irqEn
  | 0x20 => .argX
  | 0x24 => .argY
  | 0x28 => .argW
  | 0x2C => .argH
  | 0x30 => .argSrc
  | 0x34 => .argData
  | 0x38 => .argMode
  | 0x3C => .argFont
  | 0x40 => .result
  | 0x44 => .idle
  | 0x48 => .keepalive
  | 0x4C => .screen
  | _ => .reserved

/-- PARAM (10 R27). -/
def paramWord (b : Build) : Word :=
  BitVec.ofNat 32 Config.offTimeout ||| (BitVec.ofNat 32 b.chunkLines <<< 16) ||| (BitVec.ofNat 32 b.numFonts <<< 24)

/-- What a read of a register returns; no read changes the block (20 R68). -/
def readReg (r : Reg) (s : State) : Word :=
  match r with
  | .id => 0x4F524353#32
  | .geom => 0x00F00190#32
  | .param => paramWord s.build
  | .srcSize => 0x00004000#32
  | .cmd => s.lastCmd
  | .status => statusWord s
  | .irqStatus => s.irqStatus.setWidth 32
  | .irqEn => s.irqEn.setWidth 32
  | .argX => s.argX.setWidth 32
  | .argY => s.argY.setWidth 32
  | .argW => s.argW.setWidth 32
  | .argH => s.argH.setWidth 32
  | .argSrc => s.argSrc.setWidth 32
  | .argData => s.argData
  | .argMode => s.argMode &&& modeMask
  | .argFont => s.argFont.setWidth 32
  | .result => s.result
  | .idle => s.idle.setWidth 32
  | .keepalive => 0#32
  | .screen => s.screen.setWidth 32
  | .reserved => 0#32

/-- A CMD write: dropped while FATAL (40 R134), dropped with OVR while BUSY (R133), otherwise accepted (R131). -/
def writeCmd (v : Word) (s : State) : State :=
  if s.fatal then s else if s.busy then s.raise irqOvr else s.accept v

/-- What a 32-bit write to a register does; reserved bits and read-only registers ignore it (10 R24). -/
def writeReg (r : Reg) (v : Word) (s : State) : State :=
  match r with
  | .id => s
  | .geom => s
  | .param => s
  | .srcSize => s
  | .cmd => writeCmd v s
  | .status => s
  | .irqStatus => { s with irqStatus := s.irqStatus &&& ~~~(v.setWidth 6) }
  | .irqEn => { s with irqEn := v.setWidth 6 }
  | .argX => { s with argX := v.setWidth 16 }
  | .argY => { s with argY := v.setWidth 16 }
  | .argW => { s with argW := v.setWidth 16 }
  | .argH => { s with argH := v.setWidth 16 }
  | .argSrc => { s with argSrc := v.setWidth 16 }
  | .argData => { s with argData := v }
  | .argMode => { s with argMode := v &&& modeMask }
  | .argFont => { s with argFont := v.setWidth 8 }
  | .result => s
  | .idle => s
  | .keepalive => keepAlive s
  | .screen => { s with screen := v.setWidth 8 }
  | .reserved => s

/-- The bytes an access names. -/
def Size.bytes : Size → Nat
  | .b1 => 1
  | .b2 => 2
  | .b4 => 4

/-- Where an offset of the window leads (20 R60). -/
inductive Region where
  | reg (off : Nat)
  | src (a : Nat)
  | fb (a : Nat)
  | unmapped
  deriving DecidableEq, Repr

/-- The map of the window (20 R60). -/
def regionOf (off : Nat) : Region :=
  if off < 0x100 then .reg off
  else if off < 0x4000 then .unmapped
  else if off < 0x8000 then .src (off - 0x4000)
  else if off < 0x8000 + Config.fbBytes then .fb (off - 0x8000)
  else .unmapped

/-- SLVERR: read data 0, no effect (20 R61 to R64). -/
def slverrRead : BusReply := ⟨true, some 0#32⟩
/-- SLVERR to a write. -/
def slverrWrite : BusReply := ⟨true, none⟩
/-- OKAY to a read. -/
def okayRead (v : Word) : BusReply := ⟨false, some v⟩
/-- OKAY to a write. -/
def okayWrite : BusReply := ⟨false, none⟩

/-- The byte an SRC read gives: an unwritten byte is the `k`-th free byte (70 R382; log 7). -/
def srcHostByte (m : Memory) (a k : Nat) : Byte := (srcRead m a).getD (Config.freeByte k)

/-- An aligned SRC read of `n` bytes (20 R62, R65). -/
def readSrc (a n : Nat) (s : State) : State :=
  let bytes := (List.range n).map fun i => srcHostByte s.src (a + i) (s.draws + i)
  let known := (List.range n).all fun i => (srcRead s.src (a + i)).isSome
  { s with draws := if known then s.draws else s.draws + n }.reply (okayRead (wordOf bytes))

/-- An aligned FB read of `n` bytes: free bytes while BUSY = 1 (20 R63, R79). -/
def readFb (a n : Nat) (s : State) : State :=
  if s.busy then
    { s with draws := s.draws + n }.reply
      (okayRead (wordOf ((List.range n).map fun i => Config.freeByte (s.draws + i))))
  else s.reply (okayRead (wordOf ((List.range n).map fun i => fbRead s.fb (a + i))))

/-- `n` bytes of `v` written to SRC from `a` on, little-endian (20 R62, R65). -/
def srcWriteBytes (a n : Nat) (v : Word) (m : Memory) : Memory :=
  (List.range n).foldl (fun m (i : Nat) => srcWrite (a + i) (byteOf v i) m) m

/-- An aligned SRC write of `n` bytes: dropped with OVR while BUSY = 1 (20 R62, R78). -/
def writeSrc (a n : Nat) (v : Word) (s : State) : State :=
  (if s.busy then s.raise irqOvr else { s with src := srcWriteBytes a n v s.src }).reply okayWrite

/-- A host read (20 R60 to R64). -/
def hostRead (off : Nat) (size : Size) (s : State) : State :=
  match regionOf off with
  | .reg o => if size = .b4 ∧ o % 4 = 0 then s.reply (okayRead (readReg (regAt o) s)) else s.reply slverrRead
  | .src a => if a % size.bytes = 0 then readSrc a size.bytes s else s.reply slverrRead
  | .fb a => if a % size.bytes = 0 then readFb a size.bytes s else s.reply slverrRead
  | .unmapped => s.reply slverrRead

/-- A host write (20 R60 to R64). -/
def hostWrite (off : Nat) (size : Size) (v : Word) (s : State) : State :=
  match regionOf off with
  | .reg o => if size = .b4 ∧ o % 4 = 0 then (writeReg (regAt o) v s).reply okayWrite else s.reply slverrWrite
  | .src a => if a % size.bytes = 0 then writeSrc a size.bytes v s else s.reply slverrWrite
  | .fb _ => s.reply slverrWrite
  | .unmapped => s.reply slverrWrite

/-- A host access, complete before the next one starts (20 R67, R70). -/
def hostAccess (a : Access) (s : State) : State :=
  match a with
  | .read off size => hostRead off.toNat size s
  | .write off size v => hostWrite off.toNat size v s

end Sys2Proof.Machine
end

