-- ==== Sys2Proof/Machine/Refresh.lean ====
section
/-! DEFINITION. REFRESH and WRITE_LINE (spec 45), and the wire frames as the ODE hands them to the transport (spec 30
R102 to R105). -/

namespace Sys2Proof.Machine

/-- How many chunks REFRESH sends with CHUNK_LINES = c: ceil(240 / c) (45 R272). -/
def chunkCount (c : Nat) : Nat := (Config.height + c - 1) / c

/-- The chunk of at most `c` rows from row `r0` on (45 R271). -/
def chunkFrom (fb : Memory) (c r0 : Nat) : List Byte := chunkFrame r0 (min c (Config.height - r0)) (fbRow fb)

/-- The frames of REFRESH with CHUNK_LINES = c: priming, then the chunks of rows 0, c, 2c, ... (45 R271, R273). -/
def refreshFrames (fb : Memory) (c : Nat) : List (List Byte) :=
  primingFrame :: (List.range (chunkCount c)).map (fun j => chunkFrom fb c (j * c))

/-- REFRESH (45 R271). -/
def execRefresh (s : State) : Host.Outcome State Fault Refusal :=
  runHost s fun _ => (s.transmitAll (refreshFrames s.fb s.build.chunkLines), .none)

/-- WRITE_LINE (45 R274): a row outside 0..239 sends nothing, without error. -/
def execWriteLine (s : State) : Host.Outcome State Fault Refusal :=
  runHost s fun a =>
    if a.yInt < 0 ∨ (Config.height : Int) ≤ a.yInt then (s, .none)
    else (s.transmit (lineFrame a.yInt.toNat (fbRow s.fb a.yInt.toNat)), .none)

/-- WIRE_PRIMING: the frame goes out (45 R270, R273; log 11). -/
def execWirePriming (s : State) : Host.Outcome State Fault Refusal := .next (s.transmit primingFrame)

/-- WIRE_CHUNK: the frame of `n` rows from `r0` on goes out, n = 1..CHUNK_LINES (30 R104, R105; log 11). -/
def execWireChunk (r0 n : Nat) (s : State) : Host.Outcome State Fault Refusal :=
  if 1 ≤ n ∧ n ≤ s.build.chunkLines ∧ r0 + n ≤ Config.height then
    .next (s.transmit (chunkFrame r0 n (fbRow s.fb)))
  else .refused .noSuchFrame

/-- WIRE_LINE: the frame of row `r` goes out (30 R103; log 11). -/
def execWireLine (r : Nat) (s : State) : Host.Outcome State Fault Refusal :=
  if r < Config.height then .next (s.transmit (lineFrame r (fbRow s.fb r))) else .refused .noSuchFrame

/-- WIRE_CLEAR: the frame goes out (46 R304, 30 R102; log 11). -/
def execWireClear (s : State) : Host.Outcome State Fault Refusal := .next (s.transmit clearFrame)

end Sys2Proof.Machine
end

