-- ==== Sys2Proof/Machine/Draw.lean ====
section
/-! DEFINITION. DRAW_IMAGE (spec 41), FILL_RECT and BITBLT24 (spec 42). -/

namespace Sys2Proof.Machine

/-- Every SRC byte of the `n` from `base` on has been written (41 R168). -/
def srcWritten (m : Memory) (base n : Nat) : Bool := (List.range n).all fun i => (srcRead m (base + i)).isSome

/-- A written SRC byte. -/
def srcByte (m : Memory) (a : Nat) : Byte := (srcRead m a).getD 0x00#8

/-- `Perform` of DRAW_IMAGE (41 R160): none when the image has an unwritten byte. The image's every byte holds a pixel
with dx < w, so the loops of R161 read them all, on screen or not (R163). -/
def drawImage (s : State) (a : Snapshot) : Option (State × ErrCode) :=
  if a.twoColor = false then some (s, .badArg)
  else if a.wNat = 0 ∨ a.hNat = 0 then some (s, .none)
  else if Config.srcSize < a.srcNat + strideOf a.wNat * a.hNat then some (s, .srcRange)
  else if srcWritten s.src a.srcNat (strideOf a.wNat * a.hNat) then
    let byteAt := fun i => srcByte s.src (a.srcNat + i)
    some ({ s with fb := blitImage byteAt a.wNat a.hNat a.xInt a.yInt a.isSet a.order s.fb }, .none)
  else none

/-- DRAW_IMAGE (41 R160). -/
def execDrawImage (s : State) : Host.Outcome State Fault Refusal := runHostSrc s (drawImage s)

/-- The operation COLOR names for a rectangle (42 R180). -/
def rectOp (color : BitVec 2) : PixOp := if color = 1#2 then .setop else if color = 0#2 then .clrop else .xorop

/-- FILL_RECT (42 R180). -/
def execFillRect (s : State) : Host.Outcome State Fault Refusal :=
  runHost s fun a =>
    if a.color = 3#2 then (s, .badArg)
    else ({ s with fb := applyRect (rectOp a.color) a.xInt a.yInt a.wNat a.hNat s.fb }, .none)

/-- The operation BLTOP names (42 R182). -/
def runOp (bltop : BitVec 2) : PixOp := if bltop = 0#2 then .or else if bltop = 1#2 then .andn else .xor

/-- The source bit of pixel `i` of a run of `n` (42 R182, R183): 1 with FORCE in OR and ANDN, else v[n - 1 - i]. -/
def runBit (a : Snapshot) (n i : Nat) : Bool :=
  if a.force ∧ runOp a.bltop ≠ .xor then true else a.run.getLsbD (n - 1 - i)

/-- The pixels of a run, left to right (42 R182). -/
def applyRun (a : Snapshot) (n : Nat) (m : Memory) : Memory :=
  (List.range n).foldl (fun m (i : Nat) => applyPixel (runOp a.bltop) (a.xInt + i) a.yInt (runBit a n i) m) m

/-- BITBLT24 (42 R182). -/
def execBitblt24 (s : State) : Host.Outcome State Fault Refusal :=
  runHost s fun a =>
    if a.bltop = 3#2 then (s, .badArg)
    else if 24 < a.wNat then (s, .badArg)
    else ({ s with fb := applyRun a a.wNat s.fb }, .none)

end Sys2Proof.Machine
end

