-- ==== Sys2Proof/Machine/Text.lean ====
section
/-! DEFINITION. DRAW_CHAR and DRAW_STRING (spec 43). -/

namespace Sys2Proof.Machine

/-- GB_f, the bytes of one glyph (10 R23). -/
def glyphBytes (f : Font) : Nat := strideOf f.width * f.height

/-- `MemRead(FONT_f, a, 1)` (10 R23); bytes the build does not list are 0x00 (log 6). -/
def fontByte (f : Font) (a : Nat) : Byte := f.bitmap.getD a 0x00#8

/-- The font an id selects, none for an id at or above NUM_FONTS (43 R216). -/
def fontOf (b : Build) (id : Nat) : Option Font := if id < b.numFonts then b.fonts[id]? else none

/-- `DrawGlyph(f, c, a, y, color)` (43 R211): MSB-first. -/
def drawGlyph (f : Font) (c : Nat) (x y : Int) (set : Bool) (m : Memory) : Memory :=
  blitImage (fun i => fontByte f (c * glyphBytes f + i)) f.width f.height x y set false m

/-- `RESULT <- v`, 32-bit two's complement (10 R39). -/
def State.setResult (v : Int) (s : State) : State := { s with result := BitVec.ofInt 32 v }

/-- DRAW_CHAR (43 R212). -/
def execDrawChar (s : State) : Host.Outcome State Fault Refusal :=
  runHost s fun a =>
    if a.twoColor = false then (s, .badArg)
    else match fontOf s.build a.fontId with
      | none => (s.setResult a.xInt, .none)
      | some f =>
        if f.count ≤ a.code then (s.setResult a.xInt, .glyphRange)
        else (({ s with fb := drawGlyph f a.code (ceil8 a.xInt) a.yInt a.isSet s.fb }).setResult
                (ceil8 a.xInt + f.width), .none)

/-- What the string loop leaves: the cursor, FB and the error code. -/
structure StringEnd where
  cur : Int
  fb : Memory
  err : ErrCode
  deriving DecidableEq, Repr

/-- The loop of 43 R213 with `left` bytes of SRC from offset `p` on (left = SRC_SIZE - p); none when it reads an unwritten
byte (41 R168, 70 R382). The column test comes before the offset test and the read: "characters after the stop point are
not read, so an invalid code or a missing terminator past the right edge raises no error" (R213; log 22). -/
def stringLoop (f : Font) (src : Memory) (y : Int) (set : Bool) :
    (left p : Nat) → (cur : Int) → (fb : Memory) → Option StringEnd
  | 0, _, cur, fb => some ⟨cur, fb, if (Config.width : Int) ≤ ceil8 cur then .none else .srcRange⟩
  | left + 1, p, cur, fb =>
    if (Config.width : Int) ≤ ceil8 cur then some ⟨cur, fb, .none⟩
    else match srcRead src p with
      | none => none
      | some c =>
        if c = 0x00#8 then some ⟨cur, fb, .none⟩
        else if f.count ≤ c.toNat then some ⟨cur, fb, .glyphRange⟩
        else stringLoop f src y set left (p + 1) (ceil8 cur + f.width) (drawGlyph f c.toNat (ceil8 cur) y set fb)

/-- `Perform` of DRAW_STRING (43 R213); none when it reads an unwritten byte. A.SRC >= SRC_SIZE is SRC_RANGE whatever the
column. -/
def drawString (s : State) (a : Snapshot) : Option (State × ErrCode) :=
  if a.twoColor = false then some (s, .badArg)
  else match fontOf s.build a.fontId with
    | none => some (s.setResult a.xInt, .none)
    | some f =>
      if Config.srcSize ≤ a.srcNat then some (s.setResult a.xInt, .srcRange)
      else match stringLoop f s.src a.yInt a.isSet (Config.srcSize - a.srcNat) a.srcNat a.xInt s.fb with
        | none => none
        | some e => some (({ s with fb := e.fb }).setResult e.cur, e.err)

/-- DRAW_STRING (43 R213). -/
def execDrawString (s : State) : Host.Outcome State Fault Refusal := runHostSrc s (drawString s)

end Sys2Proof.Machine
end

