-- ==== Sys2Proof/Machine/Whole.lean ====
section
/-! DEFINITION. NOP, CLEAR, FILL, INVERT, TEST_PATTERN (spec 44) and ILLEGAL (spec 40 R139). -/

namespace Sys2Proof.Machine

/-- NOP (44 R244). -/
def execNop (s : State) : Host.Outcome State Fault Refusal := runHost s fun _ => (s, .none)

/-- CLEAR (44 R243). Every byte 0x00 is the memory that lists nothing. -/
def execClear (s : State) : Host.Outcome State Fault Refusal := runHost s fun _ => ({ s with fb := [] }, .none)

/-- FILL (44 R242). -/
def execFill (s : State) : Host.Outcome State Fault Refusal :=
  runHost s fun a =>
    if a.twoColor then
      ({ s with fb := fbTabulate fun _ => if a.isSet then 0xFF#8 else 0x00#8 }, .none)
    else (s, .badArg)

/-- INVERT (44 R240). -/
def execInvert (s : State) : Host.Outcome State Fault Refusal :=
  runHost s fun _ => ({ s with fb := fbTabulate fun a => ~~~(fbRead s.fb a) }, .none)

/-- The checkerboard pixel of squares of `n` pixels (44 R241). -/
def checker (n px py : Nat) : Bool := (px / n + py / n) % 2 == 1

/-- The square size A.DATA clamped to 1..32 (44 R241). -/
def squareSize (data : Nat) : Nat := min (max data 1) 32

/-- TEST_PATTERN (44 R241). -/
def execTestPattern (s : State) : Host.Outcome State Fault Refusal :=
  runHost s fun a => ({ s with fb := fbOfPixels (checker (squareSize a.square)) }, .none)

/-- ILLEGAL: nothing but completion with the code ILLEGAL (40 R139). -/
def execIllegal (_word : Word) (s : State) : Host.Outcome State Fault Refusal := runHost s fun _ => (s, .illegal)

end Sys2Proof.Machine
end

