-- ==== Sys2Proof/Machine/Dispatch.lean ====
section
/-! DEFINITION. The meaning of each instruction, one arm per constructor of Instr. -/

namespace Sys2Proof.Machine

def exec (i : Instr) (s : State) : Host.Outcome State Fault Refusal :=
  match i with
  | .nop => Sys2Proof.Machine.execNop s
  | .clear => Sys2Proof.Machine.execClear s
  | .fill => Sys2Proof.Machine.execFill s
  | .invert => Sys2Proof.Machine.execInvert s
  | .testPattern => Sys2Proof.Machine.execTestPattern s
  | .drawImage => Sys2Proof.Machine.execDrawImage s
  | .fillRect => Sys2Proof.Machine.execFillRect s
  | .bitblt24 => Sys2Proof.Machine.execBitblt24 s
  | .drawChar => Sys2Proof.Machine.execDrawChar s
  | .drawString => Sys2Proof.Machine.execDrawString s
  | .refresh => Sys2Proof.Machine.execRefresh s
  | .writeLine => Sys2Proof.Machine.execWriteLine s
  | .powerOn => Sys2Proof.Machine.execPowerOn s
  | .powerOff => Sys2Proof.Machine.execPowerOff s
  | .illegal word => Sys2Proof.Machine.execIllegal word s
  | .autoOff => Sys2Proof.Machine.execAutoOff s
  | .wirePriming => Sys2Proof.Machine.execWirePriming s
  | .wireChunk first lines => Sys2Proof.Machine.execWireChunk first lines s
  | .wireLine row => Sys2Proof.Machine.execWireLine row s
  | .wireClear => Sys2Proof.Machine.execWireClear s
  | .keepaliveWrite value => Sys2Proof.Machine.execKeepaliveWrite value s
  | .wakeTick => Sys2Proof.Machine.execWakeTick s

end Sys2Proof.Machine
end

