-- ==== Sys2Proof/Machine/Agents.lean ====
section
/-! DEFINITION. The agents (spec 00 section 5, 40 R130): which step is taken, and what it does. -/

namespace Sys2Proof.Machine

/-- The engine execute step (40 R135): runs the decoded host command or AUTO_OFF; with nothing latched, or while FATAL = 1,
it is not enabled and nothing happens (40 R130, 46 R317). -/
def engineStep (s : State) : Host.Outcome State Fault Refusal :=
  if s.fatal then .next s
  else match s.latch with
    | .empty => .next s
    | .host v _ => exec (decode v) s
    | .autoOff => exec .autoOff s

/-- One poll of WAIT (30 R107): the host reads STATUS; while it reads BUSY = 1 it polls again, after an engine step (the
engine is weakly fair, 40 R145). While FATAL = 1 the engine step is not enabled and the polls never end. -/
def pollStep (s : State) : State :=
  let t := hostRead 0x14 .b4 s
  if s.busy then { t with agenda := .engine :: .poll :: s.agenda } else t

/-- The step an event asks for (40 R130), the event already taken off the agenda. -/
def takeEvent (e : Event) (s : State) : Host.Outcome State Fault Refusal :=
  match e with
  | .access a => .next (hostAccess a s)
  | .tick => exec .wakeTick s
  | .engine => engineStep s
  | .poll => .next (pollStep s)
  | .reset => .next (resetStep s)
  | .periph f => .next { s with periph := f }

/-- One step: the event at the head of the agenda; with none to come, the engine step (40 R145), which does nothing when
nothing is latched; with none to come and FATAL = 1, the run ends in a fault (46 R317, 60 R355; log 2, log 3). -/
def advance (s : State) : Host.Outcome State Fault Refusal :=
  match s.agenda with
  | e :: rest => takeEvent e { s with agenda := rest }
  | [] => if s.fatal then .fault .fatalHalt else engineStep s

/-- The command word `w` accepted and about to run: as a CMD write leaves the latch (40 R131), no event before the engine
step, and FATAL = 0 as the engine step needs (log 13). -/
def latchWord (w : Word) (s : State) : State := { s.accept w with agenda := [], fatal := false }

end Sys2Proof.Machine
end

