-- ==== Sys2Proof/Machine/Script.lean ====
section
/-! DEFINITION. The host script (spec 30 R106, R107): each statement as the events it stands for. -/

namespace Sys2Proof.Machine

/-- A line of a host script. The name a read gives its result is its place in busLog. -/
inductive Stmt where
  | w32 (off : Half) (val : Word)
  | r32 (off : Half)
  | w16 (off : Half) (val : Half)
  | r16 (off : Half)
  | w8 (off : Half) (val : Byte)
  | r8 (off : Half)
  | tick
  | issue (op : BitVec 32)
  | wait
  | run (op : BitVec 32)
  | srcb (a : Half) (bytes : List Byte)
  | ack (bits : Word)
  | keep
  | ticks (n : Nat)
  deriving DecidableEq, Repr

/-- The 8-bit writes of SRCB, from SRC offset `a` on (30 R107). DESIGN CHOICE: an offset 0x4000 + a + i past 0xFFFF, to
which the spec gives no meaning (00 R8, 30 R106), wraps in 16 bits (log 27; unsafe). -/
def srcbEvents (a : Half) : List Byte → List Event
  | [] => []
  | b :: bs => .access (.write (0x4000#16 + a) .b1 (b.setWidth 32)) :: srcbEvents (a + 1#16) bs

/-- The events a statement stands for (30 R106, R107). -/
def Stmt.events : Stmt → List Event
  | .w32 off v => [.access (.write off .b4 v)]
  | .r32 off => [.access (.read off .b4)]
  | .w16 off v => [.access (.write off .b2 (v.setWidth 32))]
  | .r16 off => [.access (.read off .b2)]
  | .w8 off v => [.access (.write off .b1 (v.setWidth 32))]
  | .r8 off => [.access (.read off .b1)]
  | .tick => [.tick]
  | .issue op => [.access (.write 0x10#16 .b4 op)]
  | .wait => [.poll]
  | .run op => [.access (.write 0x10#16 .b4 op), .poll]
  | .srcb a bytes => srcbEvents a bytes
  | .ack bits => [.access (.write 0x18#16 .b4 bits)]
  | .keep => [.access (.write 0x48#16 .b4 0#32)]
  | .ticks n => List.replicate n .tick

/-- The script put after the events already to come. -/
def State.load (script : List Stmt) (s : State) : State := { s with agenda := s.agenda ++ script.flatMap Stmt.events }

end Sys2Proof.Machine
end

