-- ==== Sys2Proof/Safety.lean ====
section
/-! DEFINITION. What holds of every reachable state, and what counts as a normal end of a run. -/

namespace Sys2Proof.Machine

/-- The relations between the fields of the state that every step keeps. -/
structure Inv (s : State) : Prop where
  /-- FB holds 12,000 bytes in canonical form (10 R20, 40 R147). -/
  fbWf : Memory.wf Config.fbBytes fbBlank s.fb = true
  /-- SRC holds 16,384 bytes in canonical form (10 R22). -/
  srcWf : Memory.wf Config.srcSize srcBlank s.src = true
  /-- The reserved bits of ARG_MODE are 0 (10 R37). -/
  modeReserved : s.argMode &&& ~~~modeMask = 0#32
  /-- IDLE counts in 0..OFF_TIMEOUT (46 R315). -/
  idleBound : s.idle.toNat ≤ Config.offTimeout
  /-- IDLE stands at OFF_TIMEOUT only from the tick that latches AUTO_OFF to the next POWER_ON or keep-alive
  (46 R315). -/
  idleFull : s.idle.toNat = Config.offTimeout → s.latch = .autoOff ∨ s.isOn = false
  /-- A tick is held only while the engine is busy and the display is on (46 R308, R318). -/
  tickHeld : s.tickPend = true → s.latch ≠ .empty ∧ s.isOn = true
  /-- AUTO_OFF always runs with ON = 1 (46 R310). -/
  autoOffOn : s.latch = .autoOff → s.isOn = true
  /-- BUSY stays 1 while FATAL = 1 (46 R316). -/
  fatalBusy : s.fatal = true → s.latch ≠ .empty
  /-- Without a peripheral failure the four enables follow ON (46 R302, R304). -/
  pinsFollow : s.fatal = false → s.pins = PinLevels.all s.isOn

/-- The normal end of a run (40 R146): quiescent, and no event to come. -/
def normalEnd (s : State) : Bool := quiescent s && s.agenda.isEmpty

/-- A run that has not stopped: its outcome is a state. -/
def ran (o : Host.Outcome State Fault Refusal) : Bool :=
  match o with
  | .next _ => true
  | .fault _ => false
  | .refused _ => false

end Sys2Proof.Machine
end

