-- ==== Sys2Proof/Certificates/Slice0/Obligations.lean ====
section
/-! DEFINITION. The statements for the provers. What a statement needs said in words of the spec (a pixel, a completed
command, a processed tick, a row's bytes) is defined here afresh, not by the operation of the machine it is about. -/

namespace Sys2Proof.Claims

open Sys2Proof.Machine

/-- The outcome of the machine. -/
abbrev Out := Host.Outcome State Fault Refusal

/-- The engine execute step is enabled for a host command (40 R130, R135), whose operands are `a`. -/
def Ready (s : State) (a : Snapshot) : Prop := s.fatal = false ∧ ∃ v, s.latch = .host v a

/-- A processed tick (46 R309): DIRTY on the live clock screen, IDLE one more, AUTO_OFF latched at 300. -/
def ticked (s : State) : State :=
  { s with
    irqStatus := if s.screen = 0x01#8 then s.irqStatus ||| 0b000100#6 else s.irqStatus
    idle := s.idle + 1#16
    latch := if 300 ≤ (s.idle + 1#16).toNat then .autoOff else s.latch }

/-- A host command that has done its work `s` and completes with code `e` (40 R136): LATCH none, DONE, with an error also
ERR and STATUS.ERR; then a held tick is processed if the display is on (46 R318). -/
def completed (e : ErrCode) (s : State) : State :=
  let u : State :=
    { s with
      latch := .empty
      tickPend := false
      irqStatus := s.irqStatus ||| (if e = .none then 0b000001#6 else 0b000011#6)
      err := if e = .none then s.err else e }
  if s.tickPend = true ∧ s.isOn = true then ticked u else u

/-- Pixel (px, py) of the screen (10 R21). -/
def pix (m : Memory) (px py : Nat) : Bool := (fbRead m (py * 50 + px / 8)).getLsbD (7 - px % 8)

/-- The bytes of FB row r. -/
def rowBytes (m : Memory) (r : Nat) : List Byte := (List.range 50).map fun k => fbRead m (r * 50 + k)

/-- The least multiple of 8 that is at least v. -/
def up8 (v : Int) : Int := -8 * (-v / 8)

/-- Column px lies in the n columns from x on. -/
def within (x : Int) (n : Nat) (px : Nat) : Bool := decide (x ≤ (px : Int)) && decide ((px : Int) < x + n)

/-- Bit (dx, dy) of a packed image of width w whose byte at offset i is `byteAt i` (41 R161). -/
def imageBit (byteAt : Nat → Byte) (w : Nat) (lsb : Bool) (dx dy : Nat) : Bool :=
  (byteAt (dy * ((w + 7) / 8) + dx / 8)).getLsbD (if lsb then dx % 8 else 7 - dx % 8)

/-- `fb'` is `fb` with the set bits of a w by h image at (x, y) made `color`, clipped (41 R160, R163). -/
def Blitted (fb fb' : Memory) (byteAt : Nat → Byte) (w h : Nat) (x y : Int) (color lsb : Bool) : Prop :=
  (∀ px py : Nat, px < 400 → py < 240 →
    pix fb' px py =
      if within x w px && within y h py && imageBit byteAt w lsb ((px : Int) - x).toNat ((py : Int) - y).toNat
      then color else pix fb px py) ∧
  ∀ n, 12000 ≤ n → fbRead fb' n = fbRead fb n

/-- The font an id selects among the NUM_FONTS <= 255 of the build. -/
def fontAt (b : Build) (id : Nat) : Option Font := (b.fonts.take 255)[id]?

/-- Byte i of glyph c (10 R23). -/
def glyphByte (f : Font) (c i : Nat) : Byte :=
  f.bitmap.getD (c * ((f.width + 7) / 8 * f.height) + i) 0x00#8

/-- The draw point of a power sequence at which the indication fails; 5 when it does not. -/
def failPoint (s : State) : Nat :=
  match s.periph with
  | some k => k.val
  | none => 5

/-- The operands of the rest of a string: cursor `cur`, next offset. -/
def nextChar (a : Snapshot) (cur : Int) : Snapshot := { a with x := BitVec.ofInt 16 cur, src := a.src + 1#16 }

/-- The snapshot of the ARG registers (30 R95 to R100). -/
def snap (s : State) : Snapshot :=
  { x := s.argX, y := s.argY, w := s.argW, h := s.argH, src := s.argSrc, data := s.argData,
    color := s.argMode.extractLsb' 0 2, order := s.argMode.getLsbD 2, bltop := s.argMode.extractLsb' 4 2,
    force := s.argMode.getLsbD 6, clr := s.argMode.getLsbD 8, font := s.argFont }

/-- The machine run for `k` steps. -/
def runs (k : Nat) (s : State) : Out := Host.Core.run Sys2Proof.core k s

/-- 150 ticks, a KEEPALIVE write, 299 more ticks (46 R321). -/
def keepAliveBetween (v : Word) : List Event :=
  List.replicate 150 .tick ++ .access (.write 0x48#16 .b4 v) :: List.replicate 299 .tick

/-- `s` after a host access got reply `r`, the event gone from the agenda. -/
def replied (s : State) (rest : List Event) (r : BusReply) : State :=
  { s with agenda := rest, busLog := s.busLog ++ [r] }

/-- The mask of byte k of a row for the columns x0..x1-1 (42 R181). -/
def spanMask (x0 x1 : Int) (k : Nat) : Byte :=
  (List.range 8).foldl (fun b (i : Nat) =>
    if x0 ≤ (8 * k + i : Nat) ∧ ((8 * k + i : Nat) : Int) < x1 then b ||| (1#8 <<< (7 - i)) else b) 0x00#8

/-- A host command's instruction. -/
def isCommand : Instr → Bool
  | .nop | .clear | .fill | .invert | .testPattern | .drawImage | .fillRect | .bitblt24 | .drawChar | .drawString
  | .refresh | .writeLine | .powerOn | .powerOff => true
  | .illegal _ => true
  | .autoOff | .wirePriming | .wireChunk _ _ | .wireLine _ | .wireClear | .keepaliveWrite _ | .wakeTick => false

/-- An instruction that may change FB (44, 41, 42, 43). -/
def mayDraw : Instr → Bool
  | .clear | .fill | .invert | .testPattern | .drawImage | .fillRect | .bitblt24 | .drawChar | .drawString => true
  | .nop | .refresh | .writeLine | .powerOn | .powerOff | .illegal _ | .autoOff | .wirePriming | .wireChunk _ _
  | .wireLine _ | .wireClear | .keepaliveWrite _ | .wakeTick => false

/-- An instruction that may hand a frame to the transport (45, 46 R304). -/
def maySend : Instr → Bool
  | .refresh | .writeLine | .powerOff | .autoOff | .wirePriming | .wireChunk _ _ | .wireLine _ | .wireClear => true
  | .nop | .clear | .fill | .invert | .testPattern | .drawImage | .fillRect | .bitblt24 | .drawChar | .drawString
  | .powerOn | .illegal _ | .keepaliveWrite _ | .wakeTick => false

/-- An instruction of the power sequences (46 R302, R304). -/
def mayPower : Instr → Bool
  | .powerOn | .powerOff | .autoOff => true
  | .nop | .clear | .fill | .invert | .testPattern | .drawImage | .fillRect | .bitblt24 | .drawChar | .drawString
  | .refresh | .writeLine | .illegal _ | .wirePriming | .wireChunk _ _ | .wireLine _ | .wireClear | .keepaliveWrite _
  | .wakeTick => false

/-- The writable operand registers and their writable bits (10 R32 to R38, R45). -/
def writableMasks : List (Half × Word) :=
  [(0x1C#16, 0x3F#32), (0x20#16, 0xFFFF#32), (0x24#16, 0xFFFF#32), (0x28#16, 0xFFFF#32), (0x2C#16, 0xFFFF#32),
   (0x30#16, 0xFFFF#32), (0x34#16, 0xFFFFFFFF#32), (0x38#16, 0x177#32), (0x3C#16, 0xFF#32), (0x4C#16, 0xFF#32)]

/-- The register at `off` given its writable bits of `v`, nothing else changed (10 R32 to R38, R45). -/
def stored (off : Half) (v : Word) (s : State) : State :=
  if off = 0x1C#16 then { s with irqEn := v.extractLsb' 0 6 }
  else if off = 0x20#16 then { s with argX := v.extractLsb' 0 16 }
  else if off = 0x24#16 then { s with argY := v.extractLsb' 0 16 }
  else if off = 0x28#16 then { s with argW := v.extractLsb' 0 16 }
  else if off = 0x2C#16 then { s with argH := v.extractLsb' 0 16 }
  else if off = 0x30#16 then { s with argSrc := v.extractLsb' 0 16 }
  else if off = 0x34#16 then { s with argData := v }
  else if off = 0x38#16 then { s with argMode := v &&& 0x177#32 }
  else if off = 0x3C#16 then { s with argFont := v.extractLsb' 0 8 }
  else if off = 0x4C#16 then { s with screen := v.extractLsb' 0 8 }
  else s

/-- The operand registers. -/
def isArg : Reg → Bool
  | .argX | .argY | .argW | .argH | .argSrc | .argData | .argMode | .argFont => true
  | .id | .geom | .param | .srcSize | .cmd | .status | .irqStatus | .irqEn | .result | .idle | .keepalive | .screen
  | .reserved => false

end Sys2Proof.Claims

open Sys2Proof Sys2Proof.Machine Sys2Proof.Claims

/-! ## Reset, decoding, the step -/

/-- 70 R380: the state a run starts from meets the invariant. -/
def Obligations.ResetMeetsInv : Prop := Inv State.reset

/-- 70 R381, R383: a reset in any state leaves every byte of FB 0x00, every SRC byte unwritten, every register at its reset
value, the pins at 0; PINLOG gains the pins that fall, in the order DISP_EN, EXTCOMIN_EN, BOOST_EN, WAKE_ARM; TXLOG is
kept. The agenda, busLog, draws and periph kept are the model's (log 14). -/
def Obligations.ResetStepLeavesResetValues : Prop :=
  ∀ (s : State) (rest : List Event), s.agenda = .reset :: rest → ∃ t, step s = (.next t : Out) ∧
    (∀ n, fbRead t.fb n = 0x00#8) ∧ (∀ n, srcRead t.src n = none) ∧
    (∀ r : Reg, r ≠ .id → r ≠ .geom → r ≠ .param → r ≠ .srcSize → readReg r t = 0#32) ∧
    (∀ r : Reg, (r = .id ∨ r = .geom ∨ r = .param ∨ r = .srcSize) → readReg r t = readReg r s) ∧
    t.latch = .empty ∧ irqOut t = false ∧ t.pins = ⟨false, false, false, false⟩ ∧ t.txLog = s.txLog ∧
    t.pinLog = s.pinLog ++
      (([(.dispEn, s.pins.dispEn), (.extcominEn, s.pins.extcominEn), (.boostEn, s.pins.boostEn),
         (.wakeArm, s.pins.wakeArm)] : List (Pin × Bool)).filter (·.2)).map (fun p => (p.1, false)) ∧
    t.build = s.build ∧ t.agenda = rest

/-- 30 R91: the fourteen words of the opcode map, and illegal words by each of 30 R92's and R93's causes. -/
def Obligations.DecodeReadsOpcodeMap : Prop :=
  decode 0x00000000#32 = .nop ∧ decode 0x00000001#32 = .clear ∧ decode 0x00000002#32 = .fill ∧
  decode 0x00000003#32 = .invert ∧ decode 0x00000004#32 = .testPattern ∧ decode 0x00000010#32 = .drawImage ∧
  decode 0x00000011#32 = .fillRect ∧ decode 0x00000012#32 = .bitblt24 ∧ decode 0x00000020#32 = .drawChar ∧
  decode 0x00000021#32 = .drawString ∧ decode 0x00000030#32 = .refresh ∧ decode 0x00000031#32 = .writeLine ∧
  decode 0x00000040#32 = .powerOn ∧ decode 0x00000041#32 = .powerOff ∧
  decode 0x00000101#32 = .illegal 0x00000101#32 ∧ decode 0x00000005#32 = .illegal 0x00000005#32

/-- 40 R139: no bit of a command word is dropped: the decoded instruction encodes to the word it was read from, is
well-formed, and is a host command (AUTO_OFF has no word). -/
def Obligations.EncodeOfDecodedWord : Prop :=
  ∀ w : Word, encode (decode w) = some w ∧ WellFormed (decode w) ∧ isCommand (decode w) = true

/-- 30 R102 to R105: a receiver reads back the kind, the first row and the number of lines of every frame; a chunk of one
line is the single-line frame of its row (45 R278). -/
def Obligations.DecodeOfEncodedFrame : Prop :=
  ∀ (i : Instr) (rowData : Nat → List Byte) (bytes : List Byte), WellFormed i →
    (∀ r, r < 240 → (rowData r).length = 50) → encodeFrame rowData i = some bytes →
    decodeFrame bytes = .ok (match i with
      | .wireChunk r0 n => if n = 1 then .wireLine r0 else .wireChunk r0 n
      | j => j)

/-- 40 R135: with no event to come and a host command latched, the step runs the decoded word. -/
def Obligations.StepRunsLatchedWord : Prop :=
  (∀ (s : State) (v : Word) (a : Snapshot), s.agenda = [] → s.fatal = false → s.latch = .host v a →
    step s = exec (decode v) s) ∧
  (∀ (s : State) (v : Word) (a : Snapshot) (rest : List Event), s.agenda = .engine :: rest → s.fatal = false →
    s.latch = .host v a → step s = exec (decode v) { s with agenda := rest })

/-- 46 R310: with no event to come and AUTO_OFF latched, the step runs AUTO_OFF. -/
def Obligations.StepRunsAutoOff : Prop :=
  (∀ s : State, s.agenda = [] → s.fatal = false → s.latch = .autoOff → step s = exec .autoOff s) ∧
  (∀ (s : State) (rest : List Event), s.agenda = .engine :: rest → s.fatal = false → s.latch = .autoOff →
    step s = exec .autoOff { s with agenda := rest })

/-- 46 R306 and R312: a tick runs WAKE_TICK, and a 32-bit write at 0x48 runs KEEPALIVE_WRITE. -/
def Obligations.StepRunsTickAndKeepalive : Prop :=
  (∀ (s : State) (rest : List Event), s.agenda = .tick :: rest →
    step s = exec .wakeTick { s with agenda := rest }) ∧
  (∀ (s : State) (rest : List Event) (v : Word), s.agenda = .access (.write 0x48#16 .b4 v) :: rest →
    step s = exec (.keepaliveWrite v) { s with agenda := rest })

/-! ## NOP, ILLEGAL and the whole buffer -/

/-- 44 R244: NOP writes nothing but completion. -/
def Obligations.NopOnlyCompletes : Prop :=
  decode 0x00000000#32 = .nop ∧ ∀ (s : State) (a : Snapshot), Ready s a → exec .nop s = .next (completed .none s)

/-- 40 R139: an ILLEGAL command changes nothing but what completion with the code ILLEGAL writes. -/
def Obligations.IllegalOnlyReports : Prop :=
  ∀ (s : State) (a : Snapshot) (w : Word), Ready s a → exec (.illegal w) s = .next (completed .illegal s)

/-- 44 R243: CLEAR makes every byte of FB 0x00 and writes nothing else. -/
def Obligations.ClearZeroesEveryByte : Prop :=
  decode 0x00000001#32 = .clear ∧ ∀ (s : State) (a : Snapshot), Ready s a →
    ∃ fb', exec .clear s = .next (completed .none { s with fb := fb' }) ∧ ∀ n, fbRead fb' n = 0x00#8

/-- 44 R242: FILL writes 0xFF (COLOR = SET) or 0x00 (EMPTY) to every byte of FB, or is refused with BAD_ARG, FB
unchanged. -/
def Obligations.FillWritesEveryByte : Prop :=
  decode 0x00000002#32 = .fill ∧ ∀ (s : State) (a : Snapshot), Ready s a →
    (a.color = 1#2 → ∃ fb', exec .fill s = .next (completed .none { s with fb := fb' }) ∧
      ∀ n, n < 12000 → fbRead fb' n = 0xFF#8) ∧
    (a.color = 0#2 → ∃ fb', exec .fill s = .next (completed .none { s with fb := fb' }) ∧
      ∀ n, n < 12000 → fbRead fb' n = 0x00#8) ∧
    (a.color = 2#2 ∨ a.color = 3#2 → exec .fill s = .next (completed .badArg s))

/-- 44 R240: INVERT complements every byte of FB and writes nothing else. -/
def Obligations.InvertComplementsEveryByte : Prop :=
  decode 0x00000003#32 = .invert ∧ ∀ (s : State) (a : Snapshot), Ready s a →
    ∃ fb', exec .invert s = .next (completed .none { s with fb := fb' }) ∧
      ∀ n, n < 12000 → fbRead fb' n = ~~~(fbRead s.fb n)

/-- 44 R241: pixel (x, y) is on iff ((x div n) + (y div n)) mod 2 = 1, n the operand clamped to 1..32. -/
def Obligations.TestPatternIsCheckerboard : Prop :=
  decode 0x00000004#32 = .testPattern ∧ ∀ (s : State) (a : Snapshot), Ready s a →
    ∃ fb', exec .testPattern s = .next (completed .none { s with fb := fb' }) ∧
      ∀ px py : Nat, px < 400 → py < 240 →
        let n := if a.data.toNat < 1 then 1 else if 32 < a.data.toNat then 32 else a.data.toNat
        pix fb' px py = decide ((px / n + py / n) % 2 = 1)

/-- 44 R245: INVERT then INVERT restores FB. The second INVERT may come with any snapshot, in any state that kept FB. -/
def Obligations.InvertTwiceRestores : Prop :=
  ∀ (s t u : State) (a b : Snapshot), Inv s → Ready s a → exec .invert s = .next t → Ready u b → u.fb = t.fb →
    ∃ v, exec .invert u = .next v ∧ v.fb = s.fb

/-- 44 R246: FILL with SET then FILL with EMPTY leaves the FB that CLEAR leaves, from any FB. -/
def Obligations.FillSetThenEmptyIsClear : Prop :=
  ∀ (s t u w : State) (a b c : Snapshot), Ready s a → a.color = 1#2 → exec .fill s = .next t →
    Ready u b → b.color = 0#2 → u.fb = t.fb → Ready w c →
    ∃ v x, exec .fill u = .next v ∧ exec .clear w = .next x ∧ v.fb = x.fb

/-! ## Images, rectangles, runs -/

/-- 41 R160 to R163: DRAW_IMAGE with a legal colour, a size above zero and an image all in SRC and all written makes
exactly the on-screen pixels under the image's set bits SET or EMPTY, and writes nothing else but completion. -/
def Obligations.DrawImageSetsImagePixels : Prop :=
  ∀ (s : State) (a : Snapshot), Ready s a → a.color = 0#2 ∨ a.color = 1#2 → 0 < a.w.toNat → 0 < a.h.toNat →
    a.src.toNat + (a.w.toNat + 7) / 8 * a.h.toNat ≤ 16384 →
    (∀ i, i < (a.w.toNat + 7) / 8 * a.h.toNat → srcRead s.src (a.src.toNat + i) ≠ none) →
    ∃ fb', exec .drawImage s = .next (completed .none { s with fb := fb' }) ∧
      Blitted s.fb fb' (fun i => (srcRead s.src (a.src.toNat + i)).getD 0x00#8) a.w.toNat a.h.toNat a.x.toInt a.y.toInt
        (a.color == 1#2) a.order

/-- 41 R160 and 60 R342: the checks of DRAW_IMAGE in their order: BAD_ARG, then the zero size, then SRC_RANGE; none of the
three changes FB. -/
def Obligations.DrawImageRefusals : Prop :=
  ∀ (s : State) (a : Snapshot), Ready s a →
    (a.color = 2#2 ∨ a.color = 3#2 → exec .drawImage s = .next (completed .badArg s)) ∧
    (a.color = 0#2 ∨ a.color = 1#2 →
      (a.w.toNat = 0 ∨ a.h.toNat = 0 → exec .drawImage s = .next (completed .none s)) ∧
      (0 < a.w.toNat → 0 < a.h.toNat → 16384 < a.src.toNat + (a.w.toNat + 7) / 8 * a.h.toNat →
        exec .drawImage s = .next (completed .srcRange s)))

/-- 41 R168: DRAW_IMAGE of an image in SRC with an unwritten byte is a model fault. -/
def Obligations.DrawImageUnwrittenFaults : Prop :=
  ∀ (s : State) (a : Snapshot) (i : Nat), Ready s a → a.color = 0#2 ∨ a.color = 1#2 →
    0 < a.w.toNat → 0 < a.h.toNat → a.src.toNat + (a.w.toNat + 7) / 8 * a.h.toNat ≤ 16384 →
    i < (a.w.toNat + 7) / 8 * a.h.toNat → srcRead s.src (a.src.toNat + i) = none →
    exec .drawImage s = .fault .unwrittenSource

/-- 41 R167: DRAW_IMAGE with SET and then with EMPTY, the other operands and the SRC bytes the same, leaves every pixel as
it was, if the pixels under the image's set bits were 0 before. -/
def Obligations.ImageSetThenEmptyRestores : Prop :=
  ∀ (s t u v : State) (a b : Snapshot), Ready s a → a.color = 1#2 → exec .drawImage s = .next t →
    Ready u b → b = { a with color := 0#2 } → u.fb = t.fb → u.src = s.src → exec .drawImage u = .next v →
    (∀ px py : Nat, px < 400 → py < 240 → within a.x.toInt a.w.toNat px = true → within a.y.toInt a.h.toNat py = true →
      imageBit (fun i => (srcRead s.src (a.src.toNat + i)).getD 0x00#8) a.w.toNat a.order
        ((px : Int) - a.x.toInt).toNat ((py : Int) - a.y.toInt).toNat = true → pix s.fb px py = false) →
    ∀ px py : Nat, px < 400 → py < 240 → pix v.fb px py = pix s.fb px py

/-- 42 R180: FILL_RECT sets, clears or inverts exactly the on-screen pixels of the rectangle; COLOR = 3 is BAD_ARG. -/
def Obligations.FillRectPaintsRectangle : Prop :=
  decode 0x00000011#32 = .fillRect ∧ ∀ (s : State) (a : Snapshot), Ready s a →
    (a.color = 3#2 → exec .fillRect s = .next (completed .badArg s)) ∧
    (a.color ≠ 3#2 → ∃ fb', exec .fillRect s = .next (completed .none { s with fb := fb' }) ∧
      (∀ px py : Nat, px < 400 → py < 240 →
        pix fb' px py =
          if within a.x.toInt a.w.toNat px && within a.y.toInt a.h.toNat py then
            (if a.color = 1#2 then true else if a.color = 0#2 then false else !(pix s.fb px py))
          else pix s.fb px py) ∧
      ∀ n, 12000 ≤ n → fbRead fb' n = fbRead s.fb n)

/-- 42 R181: the byte-span form of FILL_RECT. -/
def Obligations.FillRectByteSpans : Prop :=
  ∀ (s t : State) (a : Snapshot), Ready s a → a.color ≠ 3#2 → exec .fillRect s = .next t →
    ∀ py k, py < 240 → k < 50 →
      let b := fbRead s.fb (py * 50 + k)
      let mask := spanMask (max a.x.toInt 0) (min (a.x.toInt + a.w.toNat) 400) k
      fbRead t.fb (py * 50 + k) =
        if within a.y.toInt a.h.toNat py then
          (if a.color = 1#2 then b ||| mask else if a.color = 0#2 then b &&& ~~~mask else b ^^^ mask)
        else b

/-- 42 R182, R183: BITBLT24 combines the run, its leftmost pixel with bit n-1 of the run value; FORCE makes the source 1
for OR and ANDN and is ignored for XOR; BLTOP = 3, then n > 24, is BAD_ARG. -/
def Obligations.Bitblt24CombinesRun : Prop :=
  decode 0x00000012#32 = .bitblt24 ∧ ∀ (s : State) (a : Snapshot), Ready s a →
    (a.bltop = 3#2 ∨ 24 < a.w.toNat → exec .bitblt24 s = .next (completed .badArg s)) ∧
    (a.bltop ≠ 3#2 → a.w.toNat ≤ 24 → ∃ fb', exec .bitblt24 s = .next (completed .none { s with fb := fb' }) ∧
      (∀ px py : Nat, px < 400 → py < 240 →
        let bit := a.data.getLsbD (a.w.toNat - 1 - ((px : Int) - a.x.toInt).toNat)
        let d := pix s.fb px py
        pix fb' px py =
          if (within a.x.toInt a.w.toNat px && decide ((py : Int) = a.y.toInt)) = true then
            (if a.bltop = 0#2 then d || (bit || a.force) else if a.bltop = 1#2 then d && !(bit || a.force)
             else Bool.xor d bit)
          else d) ∧
      ∀ n, 12000 ≤ n → fbRead fb' n = fbRead s.fb n)

/-! ## Glyphs and strings -/

/-- 43 R212, R216, R217: every outcome of DRAW_CHAR. -/
def Obligations.DrawCharDrawsGlyph : Prop :=
  decode 0x00000020#32 = .drawChar ∧ ∀ (s : State) (a : Snapshot), Ready s a →
    (a.color = 2#2 ∨ a.color = 3#2 → exec .drawChar s = .next (completed .badArg s)) ∧
    (a.color = 0#2 ∨ a.color = 1#2 →
      match fontAt s.build a.font.toNat with
      | none => exec .drawChar s = .next (completed .none { s with result := a.x.signExtend 32 })
      | some f =>
        if f.count ≤ a.data.toNat % 256 then
          exec .drawChar s = .next (completed .glyphRange { s with result := a.x.signExtend 32 })
        else
          ∃ fb', exec .drawChar s = .next (completed .none
              { s with fb := fb', result := BitVec.ofInt 32 (up8 a.x.toInt + f.width) }) ∧
            Blitted s.fb fb' (glyphByte f (a.data.toNat % 256)) f.width f.height (up8 a.x.toInt) a.y.toInt
              (a.color == 1#2) false)

/-- 43 R213, R216: the outcomes of DRAW_STRING that draw nothing: a refused colour, an unknown font, an offset at or past
the end of SRC, and an empty string. -/
def Obligations.DrawStringDrawsNothing : Prop :=
  ∀ (s : State) (a : Snapshot), Ready s a →
    (a.color = 2#2 ∨ a.color = 3#2 → exec .drawString s = .next (completed .badArg s)) ∧
    (a.color = 0#2 ∨ a.color = 1#2 →
      (fontAt s.build a.font.toNat = none →
        exec .drawString s = .next (completed .none { s with result := a.x.signExtend 32 })) ∧
      (fontAt s.build a.font.toNat ≠ none → 16384 ≤ a.src.toNat →
        exec .drawString s = .next (completed .srcRange { s with result := a.x.signExtend 32 })) ∧
      (fontAt s.build a.font.toNat ≠ none → a.src.toNat < 16384 → srcRead s.src a.src.toNat = some 0x00#8 →
        exec .drawString s = .next (completed .none { s with result := a.x.signExtend 32 })))

/-- 43 R213 to R215: what the next character of a string does: at column 400 the string stops, whatever SRC holds; a
terminator ends it; a code not below COUNT is GLYPH_RANGE; otherwise the rest is drawn, from cursor ceil8(X) + W_f and the
next offset, over the FB that DRAW_CHAR of this character leaves, and at offset SRC_SIZE ends in SRC_RANGE if it is still on
screen. That the column test comes first is R213's prose (log 22). -/
def Obligations.DrawStringTakesOneCharacter : Prop :=
  ∀ (s : State) (v : Word) (a : Snapshot) (f : Font), s.fatal = false → s.latch = .host v a →
    a.color = 0#2 ∨ a.color = 1#2 → fontAt s.build a.font.toNat = some f → a.src.toNat < 16384 →
    (400 ≤ up8 a.x.toInt → exec .drawString s = .next (completed .none { s with result := a.x.signExtend 32 })) ∧
    ∀ c : Byte, srcRead s.src a.src.toNat = some c → up8 a.x.toInt < 400 →
      (c = 0x00#8 → exec .drawString s = .next (completed .none { s with result := a.x.signExtend 32 })) ∧
      (c ≠ 0x00#8 → f.count ≤ c.toNat →
        exec .drawString s = .next (completed .glyphRange { s with result := a.x.signExtend 32 })) ∧
      (c ≠ 0x00#8 → c.toNat < f.count →
        ∃ u, exec .drawChar { s with latch := .host v { a with data := c.setWidth 32 } } = .next u ∧
          (a.src.toNat + 1 < 16384 → exec .drawString s = exec .drawString { s with
            fb := u.fb
            latch := .host v (nextChar a (up8 a.x.toInt + f.width)) }) ∧
          (a.src.toNat + 1 = 16384 → exec .drawString s = .next (completed
            (if 400 ≤ up8 (up8 a.x.toInt + f.width) then .none else .srcRange)
            { s with fb := u.fb, result := BitVec.ofInt 32 (up8 a.x.toInt + f.width) })))

/-- 43 R213: a string whose bytes are written up to a terminator in SRC completes, whatever the font: it writes FB, RESULT
and completion only, with no code but NONE or GLYPH_RANGE, and leaves every pixel of a row outside its glyphs' rows. -/
def Obligations.TerminatedStringCompletes : Prop :=
  ∀ (s : State) (a : Snapshot) (n : Nat), Ready s a → a.color = 0#2 ∨ a.color = 1#2 → a.src.toNat + n < 16384 →
    (∀ i, i ≤ n → srcRead s.src (a.src.toNat + i) ≠ none) → srcRead s.src (a.src.toNat + n) = some 0x00#8 →
    ∃ fb' r e, exec .drawString s = .next (completed e { s with fb := fb', result := r }) ∧
      (e = .none ∨ e = .glyphRange) ∧
      (∀ px py : Nat, px < 400 → py < 240 →
        (∀ f, fontAt s.build a.font.toNat = some f → within a.y.toInt f.height py = false) →
        pix fb' px py = pix s.fb px py) ∧
      ∀ m, 12000 ≤ m → fbRead fb' m = fbRead s.fb m

/-- 43 R213, R214: the glyphs of a font of width W stand ceil8(W) columns apart: glyph i of a string of n + 1 drawn
characters is drawn at column ceil8(X) + i * ceil8(W), over the FB that the glyphs before it left, and RESULT is
ceil8(X) + n * ceil8(W) + W. -/
def Obligations.StringCursorSpacing : Prop :=
  ∀ (s : State) (a : Snapshot) (f : Font) (n : Nat) (code : Nat → Byte), Ready s a → a.color = 0#2 ∨ a.color = 1#2 →
    fontAt s.build a.font.toNat = some f → a.src.toNat + n + 1 < 16384 →
    (∀ i, i ≤ n → srcRead s.src (a.src.toNat + i) = some (code i) ∧ code i ≠ 0x00#8 ∧ (code i).toNat < f.count) →
    srcRead s.src (a.src.toNat + n + 1) = some 0x00#8 → up8 a.x.toInt + n * up8 f.width < 400 →
    ∃ fbs : Nat → Memory, fbs 0 = s.fb ∧
      (∀ i, i ≤ n → Blitted (fbs i) (fbs (i + 1)) (glyphByte f (code i).toNat) f.width f.height
        (up8 a.x.toInt + i * up8 f.width) a.y.toInt (a.color == 1#2) false) ∧
      exec .drawString s = .next (completed .none
        { s with fb := fbs (n + 1), result := BitVec.ofInt 32 (up8 a.x.toInt + n * up8 f.width + f.width) })

/-- 41 R168, 70 R382: a string still on screen whose next byte is unwritten is a model fault. -/
def Obligations.DrawStringUnwrittenFaults : Prop :=
  ∀ (s : State) (a : Snapshot), Ready s a → a.color = 0#2 ∨ a.color = 1#2 → fontAt s.build a.font.toNat ≠ none →
    a.src.toNat < 16384 → up8 a.x.toInt < 400 → srcRead s.src a.src.toNat = none →
    exec .drawString s = .fault .unwrittenSource

/-! ## Refresh -/

/-- 45 R271 to R273, R276: REFRESH sends the priming frame and then ceil(240 / C) chunks, C = CHUNK_LINES, chunk j the rows
j*C .. min(j*C + C, 240) - 1, each as its line number, its 50 FB bytes and 0x00; it writes TXLOG and completion only. -/
def Obligations.RefreshSendsChunks : Prop :=
  decode 0x00000030#32 = .refresh ∧ ∀ (s : State) (a : Snapshot), Ready s a →
    ∃ frames : List (List Byte),
      exec .refresh s = .next (completed .none { s with txLog := s.txLog ++ frames }) ∧
      frames.length = 1 + (240 + s.build.chunkLines - 1) / s.build.chunkLines ∧ frames[0]? = some [0x00#8] ∧
      (∀ j, j * s.build.chunkLines < 240 →
        let n := min (j * s.build.chunkLines + s.build.chunkLines) 240 - j * s.build.chunkLines
        ∃ frame, frames[j + 1]? = some frame ∧ frame.length = 2 + 52 * n ∧
          frame = [0x01#8] ++ ((List.range n).map (fun k =>
            [BitVec.ofNat 8 (j * s.build.chunkLines + k + 1)] ++ rowBytes s.fb (j * s.build.chunkLines + k) ++
              [0x00#8])).flatten ++ [0x00#8])

/-- 45 R272: the total length of a REFRESH's frames is 1 + 2 * ceil(240 / C) + 52 * 240 bytes. -/
def Obligations.RefreshTotalBytes : Prop :=
  ∀ (s t : State) (a : Snapshot), Ready s a → exec .refresh s = .next t →
    ((t.txLog.drop s.txLog.length).map List.length).sum =
      1 + 2 * ((240 + s.build.chunkLines - 1) / s.build.chunkLines) + 52 * 240

/-- 45 R278: with CHUNK_LINES = 1, REFRESH is the priming frame and then the WRITE_LINE frames of rows 0..239. -/
def Obligations.RefreshByOneIsWriteLines : Prop :=
  ∀ (s : State) (a : Snapshot), Ready s a → s.build.chunkLines = 1 →
    let lines := (List.range 240).map fun r =>
      [0x01#8, BitVec.ofNat 8 (r + 1)] ++ rowBytes s.fb r ++ [0x00#8, 0x00#8]
    exec .refresh s = .next (completed .none { s with txLog := s.txLog ++ [[0x00#8]] ++ lines })

/-- 45 R274: WRITE_LINE sends the 54-byte frame of row A.Y, and nothing for a row outside 0..239. -/
def Obligations.WriteLineSendsRow : Prop :=
  decode 0x00000031#32 = .writeLine ∧ ∀ (s : State) (a : Snapshot), Ready s a →
    (a.y.toInt < 0 ∨ 239 < a.y.toInt → exec .writeLine s = .next (completed .none s)) ∧
    (∀ r : Nat, r < 240 → a.y.toInt = r →
      let frame := [0x01#8, BitVec.ofNat 8 (r + 1)] ++ rowBytes s.fb r ++ [0x00#8, 0x00#8]
      frame.length = 54 ∧ exec .writeLine s = .next (completed .none { s with txLog := s.txLog ++ [frame] }))

/-- 30 R103 to R105, 45 R270, R273, 46 R304: each wire frame is appended to TXLOG whole, and nothing else changes. -/
def Obligations.WireFramesAppendToLog : Prop :=
  ∀ s : State,
    exec .wirePriming s = .next { s with txLog := s.txLog ++ [[0x00#8]] } ∧
    exec .wireClear s = .next { s with txLog := s.txLog ++ [[0x04#8, 0x00#8]] } ∧
    (∀ r, r < 240 → exec (.wireLine r) s = .next { s with txLog := s.txLog ++
      [[0x01#8, BitVec.ofNat 8 (r + 1)] ++ rowBytes s.fb r ++ [0x00#8, 0x00#8]] }) ∧
    (∀ r0 n, 1 ≤ n → n ≤ s.build.chunkLines → r0 + n ≤ 240 →
      exec (.wireChunk r0 n) s = .next { s with txLog := s.txLog ++
        [[0x01#8] ++ ((List.range n).map (fun k =>
          [BitVec.ofNat 8 (r0 + k + 1)] ++ rowBytes s.fb (r0 + k) ++ [0x00#8])).flatten ++ [0x00#8]] })

/-! ## Power, ticks, keep-alive -/

/-- 46 R301, R302, R316: POWER_ON raises BOOST_EN, DISP_EN, EXTCOMIN_EN, WAKE_ARM in that order, then ON <- 1 and
IDLE <- 0; a failure drawn at point k stops it after k pins with FATAL = 1 and no completion. That the draw FAILAT is the
level of `periph`, and that its level 4, which R302 does not draw, acts as NONE here, are the model's choice (log 4). -/
def Obligations.PowerOnSequence : Prop :=
  decode 0x00000040#32 = .powerOn ∧ ∀ (s : State) (a : Snapshot), Ready s a →
    let log : List (Pin × Bool) := [(.boostEn, true), (.dispEn, true), (.extcominEn, true), (.wakeArm, true)]
    if failPoint s < 4 then
      exec .powerOn s = .next { s with
        fatal := true
        pinLog := s.pinLog ++ log.take (failPoint s)
        pins := { boostEn := s.pins.boostEn || decide (1 ≤ failPoint s)
                  dispEn := s.pins.dispEn || decide (2 ≤ failPoint s)
                  extcominEn := s.pins.extcominEn || decide (3 ≤ failPoint s)
                  wakeArm := s.pins.wakeArm } }
    else
      exec .powerOn s = .next (completed .none { s with
        pinLog := s.pinLog ++ log, pins := ⟨true, true, true, true⟩, isOn := true, idle := 0#16 })

/-- 46 R303, R304, R305, R316: POWER_OFF while OFF does nothing; while ON it sends the clear frame if CLR = 1, drops DISP_EN,
EXTCOMIN_EN, BOOST_EN, WAKE_ARM in that order, then ON <- 0 and TICK_PEND <- 0, IDLE kept; a failure drawn at point k
stops it there with FATAL = 1. That the draw FAILAT is the level of `periph` is the model's choice (log 4). -/
def Obligations.PowerOffSequence : Prop :=
  decode 0x00000041#32 = .powerOff ∧ ∀ (s : State) (a : Snapshot), Ready s a →
    let log : List (Pin × Bool) := [(.dispEn, false), (.extcominEn, false), (.boostEn, false), (.wakeArm, false)]
    let sent : List (List Byte) := if a.clr then [[0x04#8, 0x00#8]] else []
    (s.isOn = false → exec .powerOff s = .next (completed .none s)) ∧
    (s.isOn = true → failPoint s < 5 → exec .powerOff s = .next { s with
        fatal := true
        txLog := s.txLog ++ (if failPoint s = 0 then [] else sent)
        pinLog := s.pinLog ++ log.take (failPoint s - 1)
        pins := { boostEn := s.pins.boostEn && decide (failPoint s < 4)
                  dispEn := s.pins.dispEn && decide (failPoint s < 2)
                  extcominEn := s.pins.extcominEn && decide (failPoint s < 3)
                  wakeArm := s.pins.wakeArm } }) ∧
    (s.isOn = true → failPoint s = 5 → exec .powerOff s = .next (completed .none { s with
        txLog := s.txLog ++ sent, pinLog := s.pinLog ++ log, pins := ⟨false, false, false, false⟩, isOn := false,
        tickPend := false }))

/-- 46 R310, R316 and 40 R136: AUTO_OFF is the power-off sequence with the panel cleared first, completed with AUTOOFF and
without DONE, STATUS.ERR or LAST_CMD. That the draw FAILAT is the level of `periph` is the model's choice (log 4). -/
def Obligations.AutoOffSequence : Prop :=
  ∀ s : State, s.fatal = false → s.latch = .autoOff →
    let log : List (Pin × Bool) := [(.dispEn, false), (.extcominEn, false), (.boostEn, false), (.wakeArm, false)]
    if failPoint s < 5 then
      exec .autoOff s = .next { s with
        fatal := true
        txLog := s.txLog ++ (if failPoint s = 0 then [] else [[0x04#8, 0x00#8]])
        pinLog := s.pinLog ++ log.take (failPoint s - 1)
        pins := { boostEn := s.pins.boostEn && decide (failPoint s < 4)
                  dispEn := s.pins.dispEn && decide (failPoint s < 2)
                  extcominEn := s.pins.extcominEn && decide (failPoint s < 3)
                  wakeArm := s.pins.wakeArm } }
    else
      exec .autoOff s = .next { s with
        txLog := s.txLog ++ [[0x04#8, 0x00#8]], pinLog := s.pinLog ++ log, pins := ⟨false, false, false, false⟩,
        isOn := false, tickPend := false, latch := .empty, irqStatus := s.irqStatus ||| 0b001000#6 }

/-- 46 R306 to R309: a wake tick is ignored while FATAL or OFF, held while BUSY, lost with TOVF while one is held, and
processed otherwise. -/
def Obligations.WakeTickOutcomes : Prop :=
  ∀ s : State, exec .wakeTick s = .next
    (if s.fatal = true ∨ s.isOn = false then s
     else if s.latch ≠ .empty then
       (if s.tickPend = true then { s with irqStatus := s.irqStatus ||| 0b100000#6 } else { s with tickPend := true })
     else ticked s)

/-- 46 R312: a KEEPALIVE write zeroes IDLE, in any power state and whether or not BUSY = 1; while FATAL = 1 it is ignored;
it cancels no latched AUTO_OFF; the bus answers OKAY. -/
def Obligations.KeepaliveZeroesIdle : Prop :=
  ∀ (s : State) (v : Word), exec (.keepaliveWrite v) s = .next
    { s with idle := if s.fatal then s.idle else 0#16, busLog := s.busLog ++ [⟨false, none⟩] }

/-- 46 R321: from ON, idle and just reset counter: after n <= 299 ticks the display is on and IDLE = n; the 300th latches
AUTO_OFF, and the engine step after it powers the display off with the clear frame and AUTOOFF; and 150 ticks, a
KEEPALIVE write and 299 more ticks leave it on with IDLE = 299. -/
def Obligations.IdleTimeoutProperty : Prop :=
  ∀ (s : State) (v : Word), s.isOn = true → s.fatal = false → s.latch = .empty → s.tickPend = false →
    s.idle = 0#16 → s.periph = none →
    (∀ n, n ≤ 299 → ∃ t, runs n { s with agenda := List.replicate n .tick } = .next t ∧
      t.isOn = true ∧ t.idle.toNat = n ∧ t.latch = .empty ∧ t.txLog = s.txLog) ∧
    (∃ t, runs 300 { s with agenda := List.replicate 300 .tick } = .next t ∧
      t.isOn = true ∧ t.idle.toNat = 300 ∧ t.latch = .autoOff) ∧
    (∃ t, runs 301 { s with agenda := List.replicate 300 .tick } = .next t ∧
      t.isOn = false ∧ t.latch = .empty ∧ t.idle.toNat = 300 ∧ t.txLog = s.txLog ++ [[0x04#8, 0x00#8]] ∧
      t.irqStatus.getLsbD 3 = true ∧ t.pins = ⟨false, false, false, false⟩) ∧
    (∃ t, runs 450 { s with agenda := keepAliveBetween v } = .next t ∧
      t.isOn = true ∧ t.idle.toNat = 299 ∧ t.latch = .empty)

/-! ## FATAL -/

/-- 46 R317: while FATAL = 1 no engine command runs: each stops in the fault the spec names. -/
def Obligations.FatalStopsEngine : Prop :=
  ∀ (i : Instr) (s : State), isCommand i = true ∨ i = .autoOff → s.fatal = true → exec i s = .fault .fatalHalt

/-- 46 R317, 60 R349: FATAL is left only by reset; until then FB, SRC, LATCH, the pins, both logs, ON, IDLE, RESULT and
LAST_CMD stand still, whatever the host, the wake source or the environment does. -/
def Obligations.FatalLeftOnlyByReset : Prop :=
  ∀ (s t : State), s.fatal = true → s.latch ≠ .empty → step s = (.next t : Out) → s.agenda.head? ≠ some .reset →
    t.fatal = true ∧ t.fb = s.fb ∧ t.src = s.src ∧ t.latch = s.latch ∧ t.pins = s.pins ∧ t.pinLog = s.pinLog ∧
    t.txLog = s.txLog ∧ t.isOn = s.isOn ∧ t.idle = s.idle ∧ t.result = s.result ∧ t.lastCmd = s.lastCmd ∧
    t.tickPend = s.tickPend ∧ t.err = s.err

/-! ## The bus -/

/-- 40 R131 to R134: a CMD write is accepted with the snapshot when FATAL = 0 and BUSY = 0, dropped with OVR while BUSY, and
dropped silently while FATAL; the bus answers OKAY. -/
def Obligations.CmdWriteAcceptsOrDrops : Prop :=
  ∀ (s : State) (rest : List Event) (v : Word), s.agenda = .access (.write 0x10#16 .b4 v) :: rest →
    step s = (.next (
      let r := replied s rest ⟨false, none⟩
      if s.fatal then r
      else if s.latch ≠ .empty then { r with irqStatus := s.irqStatus ||| 0b010000#6 }
      else { r with lastCmd := v, err := .none, latch := .host v (snap s) }) : Out)

/-- 10 R24, R32 to R38, R45, 20 R80: a write to IRQ_EN, an ARG register or SCREEN gives that register its writable bits and
changes nothing else, in every state; read back, it gives them and 0 elsewhere. The agenda and the replies are the model's
(log 1, 9). -/
def Obligations.RegisterWriteReadsBack : Prop :=
  (∀ (s : State) (rest : List Event) (off : Half) (mask v : Word), (off, mask) ∈ writableMasks →
    s.agenda = .access (.write off .b4 v) :: rest →
    step s = (.next (replied (stored off v s) rest ⟨false, none⟩) : Out)) ∧
  ∀ (s : State) (off : Half) (mask v : Word), (off, mask) ∈ writableMasks →
    ∃ t, runs 2 { s with agenda := [.access (.write off .b4 v), .access (.read off .b4)] } = .next t ∧
      t.busLog = s.busLog ++ [⟨false, none⟩, ⟨false, some (v &&& mask)⟩]

/-- 10 R24 to R29, R31, R39, R40, R44, 20 R61: what the other registers read: the constants as the spec gives them, CMD as
LAST_CMD, IRQ_STATUS, RESULT and IDLE as they stand, KEEPALIVE and every reserved offset 0; and a write to a read-only or
reserved offset changes nothing. The agenda and the replies are the model's (log 1, 9). -/
def Obligations.ReadOnlyAndReservedRegisters : Prop :=
  (∀ (s : State) (rest : List Event) (off : Half) (w : Word), (off, w) ∈ ([(0x00#16, 0x4F524353#32),
      (0x04#16, 0x00F00190#32), (0x0C#16, 0x00004000#32), (0x10#16, s.lastCmd), (0x18#16, 0#26 ++ s.irqStatus),
      (0x40#16, s.result), (0x44#16, 0#16 ++ s.idle), (0x48#16, 0#32)] : List (Half × Word)) →
    s.agenda = .access (.read off .b4) :: rest → step s = (.next (replied s rest ⟨false, some w⟩) : Out)) ∧
  (∀ (s : State) (rest : List Event) (off : Half), 0x50 ≤ off.toNat → off.toNat ≤ 0xFC → off.toNat % 4 = 0 →
    s.agenda = .access (.read off .b4) :: rest → step s = (.next (replied s rest ⟨false, some 0#32⟩) : Out)) ∧
  (∀ (s : State) (rest : List Event) (off : Half) (v : Word),
    off ∈ ([0x00#16, 0x04#16, 0x08#16, 0x0C#16, 0x14#16, 0x40#16, 0x44#16] : List Half) ∨
      (0x50 ≤ off.toNat ∧ off.toNat ≤ 0xFC ∧ off.toNat % 4 = 0) →
    s.agenda = .access (.write off .b4 v) :: rest → step s = (.next (replied s rest ⟨false, none⟩) : Out))

/-- 10 R27, R30, R46, 60 R340: the fields of the word a host read at 0x08 (PARAM) or at 0x14 (STATUS) gives. That NUM_FONTS
counts the first 255 fonts of the list is the model's choice (log 6), as are the agenda and the replies (log 1, 9). -/
def Obligations.ParamAndStatusFields : Prop :=
  (∀ (s : State) (rest : List Event), s.agenda = .access (.read 0x08#16 .b4) :: rest →
    ∃ w : Word, step s = (.next (replied s rest ⟨false, some w⟩) : Out) ∧ w.extractLsb' 0 16 = 300#16 ∧
      (w.extractLsb' 16 8).toNat = s.build.chunkLines ∧
      (w.extractLsb' 24 8).toNat = (s.build.fonts.take 255).length) ∧
  (∀ (s : State) (rest : List Event), s.agenda = .access (.read 0x14#16 .b4) :: rest →
    step s = (.next (replied s rest ⟨false, some (statusWord s)⟩) : Out)) ∧
  ∀ s : State,
    (statusWord s).getLsbD 0 = decide (s.latch ≠ .empty) ∧ (statusWord s).getLsbD 1 = s.isOn ∧
    (statusWord s).getLsbD 2 = s.fatal ∧ (statusWord s).getLsbD 3 = s.tickPend ∧
    (statusWord s).getLsbD 4 = decide (s.latch = .autoOff) ∧ (statusWord s).extractLsb' 5 3 = 0#3 ∧
    (statusWord s).extractLsb' 8 4 = (match s.err with
      | .none => 0#4 | .illegal => 1#4 | .badArg => 2#4 | .srcRange => 3#4 | .glyphRange => 4#4) ∧
    (statusWord s).extractLsb' 12 4 = 0#4 ∧ (statusWord s).getLsbD 16 = s.pins.boostEn ∧
    (statusWord s).getLsbD 17 = s.pins.dispEn ∧ (statusWord s).getLsbD 18 = s.pins.extcominEn ∧
    (statusWord s).getLsbD 19 = s.pins.wakeArm ∧ (statusWord s).extractLsb' 20 12 = 0#12

/-- 20 R68: a read changes nothing: the only differences are the event gone and the reply given, and the count of free
bytes (the model's own). -/
def Obligations.ReadsHaveNoSideEffects : Prop :=
  ∀ (s : State) (rest : List Event) (off : Half) (size : Size), s.agenda = .access (.read off size) :: rest →
    ∃ r d, step s = (.next { replied s rest r with draws := d } : Out)

/-- 20 R62, R65, R80: an aligned SRC write of n bytes while BUSY = 0 changes exactly the n bytes it names, little-endian, and
a read of the same place gives them back; and an aligned SRC read in every state, BUSY or not, gives the bytes that have
been written, little-endian, and 0 above them. An unwritten byte is a free one (70 R382; log 7); the agenda and the replies
are the model's (log 1, 9). -/
def Obligations.SrcWriteThenRead : Prop :=
  ∀ (s : State) (off : Half) (size : Size) (n : Nat),
    (size = .b1 ∧ n = 1 ∨ size = .b2 ∧ n = 2 ∨ size = .b4 ∧ n = 4) → 0x4000 ≤ off.toNat → off.toNat < 0x8000 →
    off.toNat % n = 0 →
    (∀ v : Word, s.latch = .empty →
      ∃ t, runs 2 { s with agenda := [.access (.write off size v), .access (.read off size)] } = .next t ∧
        t.busLog = s.busLog ++ [⟨false, none⟩, ⟨false, some (BitVec.ofNat 32 (v.toNat % 2 ^ (8 * n)))⟩] ∧
        (∀ i, i < n → srcRead t.src (off.toNat - 0x4000 + i) = some (v.extractLsb' (8 * i) 8)) ∧
        (∀ b, b < off.toNat - 0x4000 ∨ off.toNat - 0x4000 + n ≤ b → srcRead t.src b = srcRead s.src b) ∧
        { t with src := s.src, agenda := s.agenda, busLog := s.busLog } = s) ∧
    ∀ rest : List Event, s.agenda = .access (.read off size) :: rest →
      ∃ (w : Word) (d : Nat), step s = (.next { replied s rest ⟨false, some w⟩ with draws := d } : Out) ∧
        (∀ (i : Nat) (b : Byte), i < n → srcRead s.src (off.toNat - 0x4000 + i) = some b → w.extractLsb' (8 * i) 8 = b) ∧
        w.toNat < 2 ^ (8 * n) ∧
        ((∀ i, i < n → srcRead s.src (off.toNat - 0x4000 + i) ≠ none) → d = s.draws)

/-- 20 R78: an aligned SRC write while BUSY = 1 is dropped, sets OVR and is answered OKAY. -/
def Obligations.SrcWriteWhileBusyDropped : Prop :=
  ∀ (s : State) (rest : List Event) (off : Half) (size : Size) (v : Word),
    0x4000 ≤ off.toNat → off.toNat < 0x8000 → off.toNat % size.bytes = 0 → s.latch ≠ .empty →
    s.agenda = .access (.write off size v) :: rest →
    step s = (.next { replied s rest ⟨false, none⟩ with irqStatus := s.irqStatus ||| 0b010000#6 } : Out)

/-- 20 R63, R65, R79: an aligned FB read while BUSY = 0 gives the bytes little-endian; while BUSY = 1 it is answered OKAY
with some value (a free one); a write of any size is SLVERR and changes nothing. -/
def Obligations.FbWindow : Prop :=
  ∀ (s : State) (rest : List Event) (off : Half), 0x8000 ≤ off.toNat → off.toNat < 0x8000 + 12000 →
    (s.latch = .empty →
      (s.agenda = .access (.read off .b1) :: rest →
        step s = (.next (replied s rest ⟨false, some ((fbRead s.fb (off.toNat - 0x8000)).setWidth 32)⟩) : Out)) ∧
      (off.toNat % 2 = 0 → s.agenda = .access (.read off .b2) :: rest →
        step s = (.next (replied s rest ⟨false, some ((fbRead s.fb (off.toNat - 0x8000 + 1) ++
          fbRead s.fb (off.toNat - 0x8000)).setWidth 32)⟩) : Out)) ∧
      (off.toNat % 4 = 0 → s.agenda = .access (.read off .b4) :: rest →
        step s = (.next (replied s rest ⟨false, some (fbRead s.fb (off.toNat - 0x8000 + 3) ++
          fbRead s.fb (off.toNat - 0x8000 + 2) ++ fbRead s.fb (off.toNat - 0x8000 + 1) ++
          fbRead s.fb (off.toNat - 0x8000))⟩) : Out))) ∧
    (∀ size : Size, s.latch ≠ .empty → off.toNat % size.bytes = 0 → s.agenda = .access (.read off size) :: rest →
      ∃ w d, step s = (.next { replied s rest ⟨false, some w⟩ with draws := d } : Out)) ∧
    (∀ (size : Size) (v : Word), s.agenda = .access (.write off size v) :: rest →
      step s = (.next (replied s rest ⟨true, none⟩) : Out))

/-- 20 R61, R62, R64: an unmapped offset, a misaligned access, and a register access that is not of 4 bytes are answered
SLVERR, read data 0, with no effect. -/
def Obligations.BadAccessesAreSlverr : Prop :=
  ∀ (s : State) (rest : List Event) (off : Half) (size : Size),
    (0x100 ≤ off.toNat ∧ off.toNat < 0x4000) ∨ 0xAEE0 ≤ off.toNat ∨ off.toNat % size.bytes ≠ 0 ∨
      (off.toNat < 0x100 ∧ size ≠ .b4) →
    (s.agenda = .access (.read off size) :: rest → step s = (.next (replied s rest ⟨true, some 0#32⟩) : Out)) ∧
    (∀ v, s.agenda = .access (.write off size v) :: rest → step s = (.next (replied s rest ⟨true, none⟩) : Out))

/-- 10 R43, 60 R344, R345: IRQ is high while some enabled bit is pending, and a write to IRQ_STATUS clears exactly the bits
written 1. -/
def Obligations.IrqLevelAndAcknowledge : Prop :=
  (∀ s : State, irqOut s = true ↔ ∃ i, i < 6 ∧ s.irqStatus.getLsbD i = true ∧ s.irqEn.getLsbD i = true) ∧
  (∀ (s : State) (rest : List Event) (v : Word), s.agenda = .access (.write 0x18#16 .b4 v) :: rest →
    ∃ q : BitVec 6, step s = (.next { replied s rest ⟨false, none⟩ with irqStatus := q } : Out) ∧
      ∀ i, i < 6 → q.getLsbD i = (s.irqStatus.getLsbD i && !(v.getLsbD i)))

/-! ## Frames and whole-machine rules -/

/-- 30 R101, 20 R75, 10 R29, R32, R45, R48: no instruction writes an ARG register, SRC, IRQ_EN, SCREEN, LAST_CMD or the
build; nor the model's own agenda, periph and draws (log 1, 4, 7; the build is log 5's field). -/
def Obligations.InstructionsKeepHostRegisters : Prop :=
  ∀ (i : Instr) (s t : State), exec i s = .next t →
    t.argX = s.argX ∧ t.argY = s.argY ∧ t.argW = s.argW ∧ t.argH = s.argH ∧ t.argSrc = s.argSrc ∧
    t.argData = s.argData ∧ t.argMode = s.argMode ∧ t.argFont = s.argFont ∧ t.src = s.src ∧ t.irqEn = s.irqEn ∧
    t.screen = s.screen ∧ t.lastCmd = s.lastCmd ∧ t.build = s.build ∧ t.periph = s.periph ∧ t.agenda = s.agenda ∧
    t.draws = s.draws

/-- 10 R20, R39, R41, R47, 46 R300: FB is changed by the drawing commands only, RESULT by DRAW_CHAR and DRAW_STRING only,
TXLOG by the sending instructions only, the pins, PINLOG, ON and FATAL by the power sequences only. -/
def Obligations.OnlyOwnersWrite : Prop :=
  ∀ (i : Instr) (s t : State), exec i s = .next t →
    (mayDraw i = false → t.fb = s.fb) ∧ (i ≠ .drawChar → i ≠ .drawString → t.result = s.result) ∧
    (maySend i = false → t.txLog = s.txLog) ∧
    (mayPower i = false → t.pins = s.pins ∧ t.pinLog = s.pinLog ∧ t.isOn = s.isOn ∧ t.fatal = s.fatal)

/-- 40 R147: no command writes outside the 12,000 bytes of FB, and each keeps FB's canonical form. -/
def Obligations.CommandsStayInsideFb : Prop :=
  ∀ (i : Instr) (s t : State), Memory.wf Config.fbBytes fbBlank s.fb = true → exec i s = .next t →
    Memory.wf Config.fbBytes fbBlank t.fb = true ∧ ∀ n, 12000 ≤ n → fbRead t.fb n = fbRead s.fb n

/-- 10 R47, 70 R383: TXLOG and PINLOG only grow, at their ends, and a step never rewrites what was sent. -/
def Obligations.LogsOnlyGrow : Prop :=
  ∀ s t : State, step s = (.next t : Out) → (∃ f, t.txLog = s.txLog ++ f) ∧ ∃ p, t.pinLog = s.pinLog ++ p

/-- 40 R132, 70 R390: a write to an ARG register while a command is latched does not change what the command does: the
write and the engine step commute. -/
def Obligations.SnapshotIsolatesCommand : Prop :=
  ∀ (r : Reg) (w v : Word) (a : Snapshot) (s t : State), isArg r = true → s.latch = .host v a →
    exec (decode v) s = .next t → exec (decode v) (writeReg r w s) = .next (writeReg r w t)

/-- 40 R130, R135: a command asked for while nothing of its kind is latched is not enabled. 30 R103 to R105: a frame of rows
the panel does not have, of no line, or of more lines than CHUNK_LINES is none of the ODE's. Each stops by name; the stops
are the model's (log 10, 11). -/
def Obligations.StopsByName : Prop :=
  ∀ s : State,
    (∀ i, s.fatal = false → isCommand i = true → (∀ v a, s.latch ≠ .host v a) → exec i s = .refused .notLatched) ∧
    (s.fatal = false → s.latch ≠ .autoOff → exec .autoOff s = .refused .notLatched) ∧
    (∀ r, 240 ≤ r → exec (.wireLine r) s = .refused .noSuchFrame) ∧
    ∀ r0 n, n = 0 ∨ s.build.chunkLines < n ∨ 240 < r0 + n → exec (.wireChunk r0 n) s = .refused .noSuchFrame

/-- 40 R130, R145, 60 R355: what a step does around the instructions: an engine event while the engine step is not enabled
does nothing; with no event to come an idle machine waits, and a FATAL one ends in the fault; the failure indication moves
at its event; a poll reads STATUS, and while BUSY = 1 is repeated after an engine step. The agenda is the model's (log 1, 2,
3, 4, 20). -/
def Obligations.StepAroundInstructions : Prop :=
  (∀ (s : State) (rest : List Event), s.agenda = .engine :: rest → s.fatal = true ∨ s.latch = .empty →
    step s = (.next { s with agenda := rest } : Out)) ∧
  (∀ s : State, s.agenda = [] → s.fatal = false → s.latch = .empty → step s = (.next s : Out)) ∧
  (∀ s : State, s.agenda = [] → s.fatal = true → step s = (.fault .fatalHalt : Out)) ∧
  (∀ (s : State) (rest : List Event) (f : FailAt), s.agenda = .periph f :: rest →
    step s = (.next { s with agenda := rest, periph := f } : Out)) ∧
  (∀ (s : State) (rest : List Event), s.agenda = .poll :: rest →
    step s = (.next (replied s (if s.latch = .empty then rest else .engine :: .poll :: rest)
      ⟨false, some (statusWord s)⟩) : Out))

/-- Every step keeps the invariant: FB and SRC canonical and in range, ARG_MODE's reserved bits 0, IDLE <= 300 and at 300
only with AUTO_OFF latched or the display off, a tick held only while BUSY and ON, AUTO_OFF latched only while ON, BUSY
while FATAL, and the pins following ON (10 R20, R22, R37, R46, 40 R147, 46 R304, R308, R310, R315, R316). -/
def Obligations.StepKeepsInv : Prop :=
  ∀ s t : State, Inv s → step s = (.next t : Out) → Inv t
end

