-- ==== Sys2Proof/Laws/State.lean ====
section
/-! SUPPORT. What each named update of the state does to each field: the updated field reads as written, every other
field as before. True by rfl, so that no later proof unfolds a record update. -/

namespace Sys2Proof.Machine

/-! ## State.transmit -/

@[simp] theorem State.transmit_fb (f : List Byte) (s : State) : (s.transmit f).fb = s.fb := rfl
@[simp] theorem State.transmit_src (f : List Byte) (s : State) : (s.transmit f).src = s.src := rfl
@[simp] theorem State.transmit_lastCmd (f : List Byte) (s : State) : (s.transmit f).lastCmd = s.lastCmd := rfl
@[simp] theorem State.transmit_latch (f : List Byte) (s : State) : (s.transmit f).latch = s.latch := rfl
@[simp] theorem State.transmit_err (f : List Byte) (s : State) : (s.transmit f).err = s.err := rfl
@[simp] theorem State.transmit_isOn (f : List Byte) (s : State) : (s.transmit f).isOn = s.isOn := rfl
@[simp] theorem State.transmit_fatal (f : List Byte) (s : State) : (s.transmit f).fatal = s.fatal := rfl
@[simp] theorem State.transmit_tickPend (f : List Byte) (s : State) : (s.transmit f).tickPend = s.tickPend := rfl
@[simp] theorem State.transmit_irqStatus (f : List Byte) (s : State) : (s.transmit f).irqStatus = s.irqStatus := rfl
@[simp] theorem State.transmit_irqEn (f : List Byte) (s : State) : (s.transmit f).irqEn = s.irqEn := rfl
@[simp] theorem State.transmit_argX (f : List Byte) (s : State) : (s.transmit f).argX = s.argX := rfl
@[simp] theorem State.transmit_argY (f : List Byte) (s : State) : (s.transmit f).argY = s.argY := rfl
@[simp] theorem State.transmit_argW (f : List Byte) (s : State) : (s.transmit f).argW = s.argW := rfl
@[simp] theorem State.transmit_argH (f : List Byte) (s : State) : (s.transmit f).argH = s.argH := rfl
@[simp] theorem State.transmit_argSrc (f : List Byte) (s : State) : (s.transmit f).argSrc = s.argSrc := rfl
@[simp] theorem State.transmit_argData (f : List Byte) (s : State) : (s.transmit f).argData = s.argData := rfl
@[simp] theorem State.transmit_argMode (f : List Byte) (s : State) : (s.transmit f).argMode = s.argMode := rfl
@[simp] theorem State.transmit_argFont (f : List Byte) (s : State) : (s.transmit f).argFont = s.argFont := rfl
@[simp] theorem State.transmit_result (f : List Byte) (s : State) : (s.transmit f).result = s.result := rfl
@[simp] theorem State.transmit_idle (f : List Byte) (s : State) : (s.transmit f).idle = s.idle := rfl
@[simp] theorem State.transmit_screen (f : List Byte) (s : State) : (s.transmit f).screen = s.screen := rfl
@[simp] theorem State.transmit_pins (f : List Byte) (s : State) : (s.transmit f).pins = s.pins := rfl
@[simp] theorem State.transmit_pinLog (f : List Byte) (s : State) : (s.transmit f).pinLog = s.pinLog := rfl
@[simp] theorem State.transmit_txLog (f : List Byte) (s : State) : (s.transmit f).txLog = s.txLog ++ [f] := rfl
@[simp] theorem State.transmit_build (f : List Byte) (s : State) : (s.transmit f).build = s.build := rfl
@[simp] theorem State.transmit_periph (f : List Byte) (s : State) : (s.transmit f).periph = s.periph := rfl
@[simp] theorem State.transmit_agenda (f : List Byte) (s : State) : (s.transmit f).agenda = s.agenda := rfl
@[simp] theorem State.transmit_busLog (f : List Byte) (s : State) : (s.transmit f).busLog = s.busLog := rfl
@[simp] theorem State.transmit_draws (f : List Byte) (s : State) : (s.transmit f).draws = s.draws := rfl

/-! ## State.transmitAll -/

@[simp] theorem State.transmitAll_fb (fs : List (List Byte)) (s : State) : (s.transmitAll fs).fb = s.fb := rfl
@[simp] theorem State.transmitAll_src (fs : List (List Byte)) (s : State) : (s.transmitAll fs).src = s.src := rfl
@[simp] theorem State.transmitAll_lastCmd (fs : List (List Byte)) (s : State) : (s.transmitAll fs).lastCmd = s.lastCmd := rfl
@[simp] theorem State.transmitAll_latch (fs : List (List Byte)) (s : State) : (s.transmitAll fs).latch = s.latch := rfl
@[simp] theorem State.transmitAll_err (fs : List (List Byte)) (s : State) : (s.transmitAll fs).err = s.err := rfl
@[simp] theorem State.transmitAll_isOn (fs : List (List Byte)) (s : State) : (s.transmitAll fs).isOn = s.isOn := rfl
@[simp] theorem State.transmitAll_fatal (fs : List (List Byte)) (s : State) : (s.transmitAll fs).fatal = s.fatal := rfl
@[simp] theorem State.transmitAll_tickPend (fs : List (List Byte)) (s : State) : (s.transmitAll fs).tickPend = s.tickPend := rfl
@[simp] theorem State.transmitAll_irqStatus (fs : List (List Byte)) (s : State) : (s.transmitAll fs).irqStatus = s.irqStatus := rfl
@[simp] theorem State.transmitAll_irqEn (fs : List (List Byte)) (s : State) : (s.transmitAll fs).irqEn = s.irqEn := rfl
@[simp] theorem State.transmitAll_argX (fs : List (List Byte)) (s : State) : (s.transmitAll fs).argX = s.argX := rfl
@[simp] theorem State.transmitAll_argY (fs : List (List Byte)) (s : State) : (s.transmitAll fs).argY = s.argY := rfl
@[simp] theorem State.transmitAll_argW (fs : List (List Byte)) (s : State) : (s.transmitAll fs).argW = s.argW := rfl
@[simp] theorem State.transmitAll_argH (fs : List (List Byte)) (s : State) : (s.transmitAll fs).argH = s.argH := rfl
@[simp] theorem State.transmitAll_argSrc (fs : List (List Byte)) (s : State) : (s.transmitAll fs).argSrc = s.argSrc := rfl
@[simp] theorem State.transmitAll_argData (fs : List (List Byte)) (s : State) : (s.transmitAll fs).argData = s.argData := rfl
@[simp] theorem State.transmitAll_argMode (fs : List (List Byte)) (s : State) : (s.transmitAll fs).argMode = s.argMode := rfl
@[simp] theorem State.transmitAll_argFont (fs : List (List Byte)) (s : State) : (s.transmitAll fs).argFont = s.argFont := rfl
@[simp] theorem State.transmitAll_result (fs : List (List Byte)) (s : State) : (s.transmitAll fs).result = s.result := rfl
@[simp] theorem State.transmitAll_idle (fs : List (List Byte)) (s : State) : (s.transmitAll fs).idle = s.idle := rfl
@[simp] theorem State.transmitAll_screen (fs : List (List Byte)) (s : State) : (s.transmitAll fs).screen = s.screen := rfl
@[simp] theorem State.transmitAll_pins (fs : List (List Byte)) (s : State) : (s.transmitAll fs).pins = s.pins := rfl
@[simp] theorem State.transmitAll_pinLog (fs : List (List Byte)) (s : State) : (s.transmitAll fs).pinLog = s.pinLog := rfl
@[simp] theorem State.transmitAll_txLog (fs : List (List Byte)) (s : State) : (s.transmitAll fs).txLog = s.txLog ++ fs := rfl
@[simp] theorem State.transmitAll_build (fs : List (List Byte)) (s : State) : (s.transmitAll fs).build = s.build := rfl
@[simp] theorem State.transmitAll_periph (fs : List (List Byte)) (s : State) : (s.transmitAll fs).periph = s.periph := rfl
@[simp] theorem State.transmitAll_agenda (fs : List (List Byte)) (s : State) : (s.transmitAll fs).agenda = s.agenda := rfl
@[simp] theorem State.transmitAll_busLog (fs : List (List Byte)) (s : State) : (s.transmitAll fs).busLog = s.busLog := rfl
@[simp] theorem State.transmitAll_draws (fs : List (List Byte)) (s : State) : (s.transmitAll fs).draws = s.draws := rfl

/-! ## State.reply -/

@[simp] theorem State.reply_fb (r : BusReply) (s : State) : (s.reply r).fb = s.fb := rfl
@[simp] theorem State.reply_src (r : BusReply) (s : State) : (s.reply r).src = s.src := rfl
@[simp] theorem State.reply_lastCmd (r : BusReply) (s : State) : (s.reply r).lastCmd = s.lastCmd := rfl
@[simp] theorem State.reply_latch (r : BusReply) (s : State) : (s.reply r).latch = s.latch := rfl
@[simp] theorem State.reply_err (r : BusReply) (s : State) : (s.reply r).err = s.err := rfl
@[simp] theorem State.reply_isOn (r : BusReply) (s : State) : (s.reply r).isOn = s.isOn := rfl
@[simp] theorem State.reply_fatal (r : BusReply) (s : State) : (s.reply r).fatal = s.fatal := rfl
@[simp] theorem State.reply_tickPend (r : BusReply) (s : State) : (s.reply r).tickPend = s.tickPend := rfl
@[simp] theorem State.reply_irqStatus (r : BusReply) (s : State) : (s.reply r).irqStatus = s.irqStatus := rfl
@[simp] theorem State.reply_irqEn (r : BusReply) (s : State) : (s.reply r).irqEn = s.irqEn := rfl
@[simp] theorem State.reply_argX (r : BusReply) (s : State) : (s.reply r).argX = s.argX := rfl
@[simp] theorem State.reply_argY (r : BusReply) (s : State) : (s.reply r).argY = s.argY := rfl
@[simp] theorem State.reply_argW (r : BusReply) (s : State) : (s.reply r).argW = s.argW := rfl
@[simp] theorem State.reply_argH (r : BusReply) (s : State) : (s.reply r).argH = s.argH := rfl
@[simp] theorem State.reply_argSrc (r : BusReply) (s : State) : (s.reply r).argSrc = s.argSrc := rfl
@[simp] theorem State.reply_argData (r : BusReply) (s : State) : (s.reply r).argData = s.argData := rfl
@[simp] theorem State.reply_argMode (r : BusReply) (s : State) : (s.reply r).argMode = s.argMode := rfl
@[simp] theorem State.reply_argFont (r : BusReply) (s : State) : (s.reply r).argFont = s.argFont := rfl
@[simp] theorem State.reply_result (r : BusReply) (s : State) : (s.reply r).result = s.result := rfl
@[simp] theorem State.reply_idle (r : BusReply) (s : State) : (s.reply r).idle = s.idle := rfl
@[simp] theorem State.reply_screen (r : BusReply) (s : State) : (s.reply r).screen = s.screen := rfl
@[simp] theorem State.reply_pins (r : BusReply) (s : State) : (s.reply r).pins = s.pins := rfl
@[simp] theorem State.reply_pinLog (r : BusReply) (s : State) : (s.reply r).pinLog = s.pinLog := rfl
@[simp] theorem State.reply_txLog (r : BusReply) (s : State) : (s.reply r).txLog = s.txLog := rfl
@[simp] theorem State.reply_build (r : BusReply) (s : State) : (s.reply r).build = s.build := rfl
@[simp] theorem State.reply_periph (r : BusReply) (s : State) : (s.reply r).periph = s.periph := rfl
@[simp] theorem State.reply_agenda (r : BusReply) (s : State) : (s.reply r).agenda = s.agenda := rfl
@[simp] theorem State.reply_busLog (r : BusReply) (s : State) : (s.reply r).busLog = s.busLog ++ [r] := rfl
@[simp] theorem State.reply_draws (r : BusReply) (s : State) : (s.reply r).draws = s.draws := rfl

/-! ## State.raise -/

@[simp] theorem State.raise_fb (i : Nat) (s : State) : (s.raise i).fb = s.fb := rfl
@[simp] theorem State.raise_src (i : Nat) (s : State) : (s.raise i).src = s.src := rfl
@[simp] theorem State.raise_lastCmd (i : Nat) (s : State) : (s.raise i).lastCmd = s.lastCmd := rfl
@[simp] theorem State.raise_latch (i : Nat) (s : State) : (s.raise i).latch = s.latch := rfl
@[simp] theorem State.raise_err (i : Nat) (s : State) : (s.raise i).err = s.err := rfl
@[simp] theorem State.raise_isOn (i : Nat) (s : State) : (s.raise i).isOn = s.isOn := rfl
@[simp] theorem State.raise_fatal (i : Nat) (s : State) : (s.raise i).fatal = s.fatal := rfl
@[simp] theorem State.raise_tickPend (i : Nat) (s : State) : (s.raise i).tickPend = s.tickPend := rfl
@[simp] theorem State.raise_irqStatus (i : Nat) (s : State) : (s.raise i).irqStatus = s.irqStatus ||| (1#6 <<< i) := rfl
@[simp] theorem State.raise_irqEn (i : Nat) (s : State) : (s.raise i).irqEn = s.irqEn := rfl
@[simp] theorem State.raise_argX (i : Nat) (s : State) : (s.raise i).argX = s.argX := rfl
@[simp] theorem State.raise_argY (i : Nat) (s : State) : (s.raise i).argY = s.argY := rfl
@[simp] theorem State.raise_argW (i : Nat) (s : State) : (s.raise i).argW = s.argW := rfl
@[simp] theorem State.raise_argH (i : Nat) (s : State) : (s.raise i).argH = s.argH := rfl
@[simp] theorem State.raise_argSrc (i : Nat) (s : State) : (s.raise i).argSrc = s.argSrc := rfl
@[simp] theorem State.raise_argData (i : Nat) (s : State) : (s.raise i).argData = s.argData := rfl
@[simp] theorem State.raise_argMode (i : Nat) (s : State) : (s.raise i).argMode = s.argMode := rfl
@[simp] theorem State.raise_argFont (i : Nat) (s : State) : (s.raise i).argFont = s.argFont := rfl
@[simp] theorem State.raise_result (i : Nat) (s : State) : (s.raise i).result = s.result := rfl
@[simp] theorem State.raise_idle (i : Nat) (s : State) : (s.raise i).idle = s.idle := rfl
@[simp] theorem State.raise_screen (i : Nat) (s : State) : (s.raise i).screen = s.screen := rfl
@[simp] theorem State.raise_pins (i : Nat) (s : State) : (s.raise i).pins = s.pins := rfl
@[simp] theorem State.raise_pinLog (i : Nat) (s : State) : (s.raise i).pinLog = s.pinLog := rfl
@[simp] theorem State.raise_txLog (i : Nat) (s : State) : (s.raise i).txLog = s.txLog := rfl
@[simp] theorem State.raise_build (i : Nat) (s : State) : (s.raise i).build = s.build := rfl
@[simp] theorem State.raise_periph (i : Nat) (s : State) : (s.raise i).periph = s.periph := rfl
@[simp] theorem State.raise_agenda (i : Nat) (s : State) : (s.raise i).agenda = s.agenda := rfl
@[simp] theorem State.raise_busLog (i : Nat) (s : State) : (s.raise i).busLog = s.busLog := rfl
@[simp] theorem State.raise_draws (i : Nat) (s : State) : (s.raise i).draws = s.draws := rfl

/-! ## State.halt -/

@[simp] theorem State.halt_fb (s : State) : (s.halt).fb = s.fb := rfl
@[simp] theorem State.halt_src (s : State) : (s.halt).src = s.src := rfl
@[simp] theorem State.halt_lastCmd (s : State) : (s.halt).lastCmd = s.lastCmd := rfl
@[simp] theorem State.halt_latch (s : State) : (s.halt).latch = s.latch := rfl
@[simp] theorem State.halt_err (s : State) : (s.halt).err = s.err := rfl
@[simp] theorem State.halt_isOn (s : State) : (s.halt).isOn = s.isOn := rfl
@[simp] theorem State.halt_fatal (s : State) : (s.halt).fatal = true := rfl
@[simp] theorem State.halt_tickPend (s : State) : (s.halt).tickPend = s.tickPend := rfl
@[simp] theorem State.halt_irqStatus (s : State) : (s.halt).irqStatus = s.irqStatus := rfl
@[simp] theorem State.halt_irqEn (s : State) : (s.halt).irqEn = s.irqEn := rfl
@[simp] theorem State.halt_argX (s : State) : (s.halt).argX = s.argX := rfl
@[simp] theorem State.halt_argY (s : State) : (s.halt).argY = s.argY := rfl
@[simp] theorem State.halt_argW (s : State) : (s.halt).argW = s.argW := rfl
@[simp] theorem State.halt_argH (s : State) : (s.halt).argH = s.argH := rfl
@[simp] theorem State.halt_argSrc (s : State) : (s.halt).argSrc = s.argSrc := rfl
@[simp] theorem State.halt_argData (s : State) : (s.halt).argData = s.argData := rfl
@[simp] theorem State.halt_argMode (s : State) : (s.halt).argMode = s.argMode := rfl
@[simp] theorem State.halt_argFont (s : State) : (s.halt).argFont = s.argFont := rfl
@[simp] theorem State.halt_result (s : State) : (s.halt).result = s.result := rfl
@[simp] theorem State.halt_idle (s : State) : (s.halt).idle = s.idle := rfl
@[simp] theorem State.halt_screen (s : State) : (s.halt).screen = s.screen := rfl
@[simp] theorem State.halt_pins (s : State) : (s.halt).pins = s.pins := rfl
@[simp] theorem State.halt_pinLog (s : State) : (s.halt).pinLog = s.pinLog := rfl
@[simp] theorem State.halt_txLog (s : State) : (s.halt).txLog = s.txLog := rfl
@[simp] theorem State.halt_build (s : State) : (s.halt).build = s.build := rfl
@[simp] theorem State.halt_periph (s : State) : (s.halt).periph = s.periph := rfl
@[simp] theorem State.halt_agenda (s : State) : (s.halt).agenda = s.agenda := rfl
@[simp] theorem State.halt_busLog (s : State) : (s.halt).busLog = s.busLog := rfl
@[simp] theorem State.halt_draws (s : State) : (s.halt).draws = s.draws := rfl

/-! ## State.setResult -/

@[simp] theorem State.setResult_fb (v : Int) (s : State) : (s.setResult v).fb = s.fb := rfl
@[simp] theorem State.setResult_src (v : Int) (s : State) : (s.setResult v).src = s.src := rfl
@[simp] theorem State.setResult_lastCmd (v : Int) (s : State) : (s.setResult v).lastCmd = s.lastCmd := rfl
@[simp] theorem State.setResult_latch (v : Int) (s : State) : (s.setResult v).latch = s.latch := rfl
@[simp] theorem State.setResult_err (v : Int) (s : State) : (s.setResult v).err = s.err := rfl
@[simp] theorem State.setResult_isOn (v : Int) (s : State) : (s.setResult v).isOn = s.isOn := rfl
@[simp] theorem State.setResult_fatal (v : Int) (s : State) : (s.setResult v).fatal = s.fatal := rfl
@[simp] theorem State.setResult_tickPend (v : Int) (s : State) : (s.setResult v).tickPend = s.tickPend := rfl
@[simp] theorem State.setResult_irqStatus (v : Int) (s : State) : (s.setResult v).irqStatus = s.irqStatus := rfl
@[simp] theorem State.setResult_irqEn (v : Int) (s : State) : (s.setResult v).irqEn = s.irqEn := rfl
@[simp] theorem State.setResult_argX (v : Int) (s : State) : (s.setResult v).argX = s.argX := rfl
@[simp] theorem State.setResult_argY (v : Int) (s : State) : (s.setResult v).argY = s.argY := rfl
@[simp] theorem State.setResult_argW (v : Int) (s : State) : (s.setResult v).argW = s.argW := rfl
@[simp] theorem State.setResult_argH (v : Int) (s : State) : (s.setResult v).argH = s.argH := rfl
@[simp] theorem State.setResult_argSrc (v : Int) (s : State) : (s.setResult v).argSrc = s.argSrc := rfl
@[simp] theorem State.setResult_argData (v : Int) (s : State) : (s.setResult v).argData = s.argData := rfl
@[simp] theorem State.setResult_argMode (v : Int) (s : State) : (s.setResult v).argMode = s.argMode := rfl
@[simp] theorem State.setResult_argFont (v : Int) (s : State) : (s.setResult v).argFont = s.argFont := rfl
@[simp] theorem State.setResult_result (v : Int) (s : State) : (s.setResult v).result = BitVec.ofInt 32 v := rfl
@[simp] theorem State.setResult_idle (v : Int) (s : State) : (s.setResult v).idle = s.idle := rfl
@[simp] theorem State.setResult_screen (v : Int) (s : State) : (s.setResult v).screen = s.screen := rfl
@[simp] theorem State.setResult_pins (v : Int) (s : State) : (s.setResult v).pins = s.pins := rfl
@[simp] theorem State.setResult_pinLog (v : Int) (s : State) : (s.setResult v).pinLog = s.pinLog := rfl
@[simp] theorem State.setResult_txLog (v : Int) (s : State) : (s.setResult v).txLog = s.txLog := rfl
@[simp] theorem State.setResult_build (v : Int) (s : State) : (s.setResult v).build = s.build := rfl
@[simp] theorem State.setResult_periph (v : Int) (s : State) : (s.setResult v).periph = s.periph := rfl
@[simp] theorem State.setResult_agenda (v : Int) (s : State) : (s.setResult v).agenda = s.agenda := rfl
@[simp] theorem State.setResult_busLog (v : Int) (s : State) : (s.setResult v).busLog = s.busLog := rfl
@[simp] theorem State.setResult_draws (v : Int) (s : State) : (s.setResult v).draws = s.draws := rfl

/-! ## State.accept -/

@[simp] theorem State.accept_fb (v : Word) (s : State) : (s.accept v).fb = s.fb := rfl
@[simp] theorem State.accept_src (v : Word) (s : State) : (s.accept v).src = s.src := rfl
@[simp] theorem State.accept_lastCmd (v : Word) (s : State) : (s.accept v).lastCmd = v := rfl
@[simp] theorem State.accept_latch (v : Word) (s : State) : (s.accept v).latch = .host v (snapshotOf s) := rfl
@[simp] theorem State.accept_err (v : Word) (s : State) : (s.accept v).err = .none := rfl
@[simp] theorem State.accept_isOn (v : Word) (s : State) : (s.accept v).isOn = s.isOn := rfl
@[simp] theorem State.accept_fatal (v : Word) (s : State) : (s.accept v).fatal = s.fatal := rfl
@[simp] theorem State.accept_tickPend (v : Word) (s : State) : (s.accept v).tickPend = s.tickPend := rfl
@[simp] theorem State.accept_irqStatus (v : Word) (s : State) : (s.accept v).irqStatus = s.irqStatus := rfl
@[simp] theorem State.accept_irqEn (v : Word) (s : State) : (s.accept v).irqEn = s.irqEn := rfl
@[simp] theorem State.accept_argX (v : Word) (s : State) : (s.accept v).argX = s.argX := rfl
@[simp] theorem State.accept_argY (v : Word) (s : State) : (s.accept v).argY = s.argY := rfl
@[simp] theorem State.accept_argW (v : Word) (s : State) : (s.accept v).argW = s.argW := rfl
@[simp] theorem State.accept_argH (v : Word) (s : State) : (s.accept v).argH = s.argH := rfl
@[simp] theorem State.accept_argSrc (v : Word) (s : State) : (s.accept v).argSrc = s.argSrc := rfl
@[simp] theorem State.accept_argData (v : Word) (s : State) : (s.accept v).argData = s.argData := rfl
@[simp] theorem State.accept_argMode (v : Word) (s : State) : (s.accept v).argMode = s.argMode := rfl
@[simp] theorem State.accept_argFont (v : Word) (s : State) : (s.accept v).argFont = s.argFont := rfl
@[simp] theorem State.accept_result (v : Word) (s : State) : (s.accept v).result = s.result := rfl
@[simp] theorem State.accept_idle (v : Word) (s : State) : (s.accept v).idle = s.idle := rfl
@[simp] theorem State.accept_screen (v : Word) (s : State) : (s.accept v).screen = s.screen := rfl
@[simp] theorem State.accept_pins (v : Word) (s : State) : (s.accept v).pins = s.pins := rfl
@[simp] theorem State.accept_pinLog (v : Word) (s : State) : (s.accept v).pinLog = s.pinLog := rfl
@[simp] theorem State.accept_txLog (v : Word) (s : State) : (s.accept v).txLog = s.txLog := rfl
@[simp] theorem State.accept_build (v : Word) (s : State) : (s.accept v).build = s.build := rfl
@[simp] theorem State.accept_periph (v : Word) (s : State) : (s.accept v).periph = s.periph := rfl
@[simp] theorem State.accept_agenda (v : Word) (s : State) : (s.accept v).agenda = s.agenda := rfl
@[simp] theorem State.accept_busLog (v : Word) (s : State) : (s.accept v).busLog = s.busLog := rfl
@[simp] theorem State.accept_draws (v : Word) (s : State) : (s.accept v).draws = s.draws := rfl

/-! ## State.setPin -/

@[simp] theorem State.setPin_fb (p : Pin) (v : Bool) (s : State) : (s.setPin p v).fb = s.fb := rfl
@[simp] theorem State.setPin_src (p : Pin) (v : Bool) (s : State) : (s.setPin p v).src = s.src := rfl
@[simp] theorem State.setPin_lastCmd (p : Pin) (v : Bool) (s : State) : (s.setPin p v).lastCmd = s.lastCmd := rfl
@[simp] theorem State.setPin_latch (p : Pin) (v : Bool) (s : State) : (s.setPin p v).latch = s.latch := rfl
@[simp] theorem State.setPin_err (p : Pin) (v : Bool) (s : State) : (s.setPin p v).err = s.err := rfl
@[simp] theorem State.setPin_isOn (p : Pin) (v : Bool) (s : State) : (s.setPin p v).isOn = s.isOn := rfl
@[simp] theorem State.setPin_fatal (p : Pin) (v : Bool) (s : State) : (s.setPin p v).fatal = s.fatal := rfl
@[simp] theorem State.setPin_tickPend (p : Pin) (v : Bool) (s : State) : (s.setPin p v).tickPend = s.tickPend := rfl
@[simp] theorem State.setPin_irqStatus (p : Pin) (v : Bool) (s : State) : (s.setPin p v).irqStatus = s.irqStatus := rfl
@[simp] theorem State.setPin_irqEn (p : Pin) (v : Bool) (s : State) : (s.setPin p v).irqEn = s.irqEn := rfl
@[simp] theorem State.setPin_argX (p : Pin) (v : Bool) (s : State) : (s.setPin p v).argX = s.argX := rfl
@[simp] theorem State.setPin_argY (p : Pin) (v : Bool) (s : State) : (s.setPin p v).argY = s.argY := rfl
@[simp] theorem State.setPin_argW (p : Pin) (v : Bool) (s : State) : (s.setPin p v).argW = s.argW := rfl
@[simp] theorem State.setPin_argH (p : Pin) (v : Bool) (s : State) : (s.setPin p v).argH = s.argH := rfl
@[simp] theorem State.setPin_argSrc (p : Pin) (v : Bool) (s : State) : (s.setPin p v).argSrc = s.argSrc := rfl
@[simp] theorem State.setPin_argData (p : Pin) (v : Bool) (s : State) : (s.setPin p v).argData = s.argData := rfl
@[simp] theorem State.setPin_argMode (p : Pin) (v : Bool) (s : State) : (s.setPin p v).argMode = s.argMode := rfl
@[simp] theorem State.setPin_argFont (p : Pin) (v : Bool) (s : State) : (s.setPin p v).argFont = s.argFont := rfl
@[simp] theorem State.setPin_result (p : Pin) (v : Bool) (s : State) : (s.setPin p v).result = s.result := rfl
@[simp] theorem State.setPin_idle (p : Pin) (v : Bool) (s : State) : (s.setPin p v).idle = s.idle := rfl
@[simp] theorem State.setPin_screen (p : Pin) (v : Bool) (s : State) : (s.setPin p v).screen = s.screen := rfl
@[simp] theorem State.setPin_pinLog (p : Pin) (v : Bool) (s : State) : (s.setPin p v).pinLog = s.pinLog ++ [(p, v)] := rfl
@[simp] theorem State.setPin_txLog (p : Pin) (v : Bool) (s : State) : (s.setPin p v).txLog = s.txLog := rfl
@[simp] theorem State.setPin_build (p : Pin) (v : Bool) (s : State) : (s.setPin p v).build = s.build := rfl
@[simp] theorem State.setPin_periph (p : Pin) (v : Bool) (s : State) : (s.setPin p v).periph = s.periph := rfl
@[simp] theorem State.setPin_agenda (p : Pin) (v : Bool) (s : State) : (s.setPin p v).agenda = s.agenda := rfl
@[simp] theorem State.setPin_busLog (p : Pin) (v : Bool) (s : State) : (s.setPin p v).busLog = s.busLog := rfl
@[simp] theorem State.setPin_draws (p : Pin) (v : Bool) (s : State) : (s.setPin p v).draws = s.draws := rfl

@[simp] theorem State.setPin_pins_boostEn (v : Bool) (s : State) :
    (s.setPin .boostEn v).pins = { s.pins with boostEn := v } := rfl
@[simp] theorem State.setPin_pins_dispEn (v : Bool) (s : State) :
    (s.setPin .dispEn v).pins = { s.pins with dispEn := v } := rfl
@[simp] theorem State.setPin_pins_extcominEn (v : Bool) (s : State) :
    (s.setPin .extcominEn v).pins = { s.pins with extcominEn := v } := rfl
@[simp] theorem State.setPin_pins_wakeArm (v : Bool) (s : State) :
    (s.setPin .wakeArm v).pins = { s.pins with wakeArm := v } := rfl

/-! ## BUSY and INTERNAL are functions of the latch (10 R46) -/

theorem State.busy_of_latch {s t : State} (h : s.latch = t.latch) : s.busy = t.busy := by
  simp [State.busy, h]

theorem State.internal_of_latch {s t : State} (h : s.latch = t.latch) : s.internal = t.internal := by
  simp [State.internal, h]

theorem State.busy_eq_false {s : State} : s.busy = false ↔ s.latch = .empty := by
  simp [State.busy]

theorem State.internal_iff {s : State} : s.internal = true ↔ s.latch = .autoOff := by
  simp [State.internal]

end Sys2Proof.Machine
end

