-- ==== Sys2Proof/Laws/Engine.lean ====
section
/-! SUPPORT. What the shared operations of the engine and the controller do (spec 40 R135, R136, 46 R302 to R318): the
fields each leaves alone, and one lemma that says everything a host command's engine step can do. -/

namespace Sys2Proof.Machine

/-! ## ProcessTick writes IRQ_STATUS, IDLE and LATCH only (46 R309) -/

@[simp] theorem processTick_fb (s : State) : (processTick s).fb = s.fb := by
  unfold processTick; dsimp only; split <;> split <;> rfl

@[simp] theorem processTick_src (s : State) : (processTick s).src = s.src := by
  unfold processTick; dsimp only; split <;> split <;> rfl

@[simp] theorem processTick_lastCmd (s : State) : (processTick s).lastCmd = s.lastCmd := by
  unfold processTick; dsimp only; split <;> split <;> rfl

@[simp] theorem processTick_err (s : State) : (processTick s).err = s.err := by
  unfold processTick; dsimp only; split <;> split <;> rfl

@[simp] theorem processTick_isOn (s : State) : (processTick s).isOn = s.isOn := by
  unfold processTick; dsimp only; split <;> split <;> rfl

@[simp] theorem processTick_fatal (s : State) : (processTick s).fatal = s.fatal := by
  unfold processTick; dsimp only; split <;> split <;> rfl

@[simp] theorem processTick_tickPend (s : State) : (processTick s).tickPend = s.tickPend := by
  unfold processTick; dsimp only; split <;> split <;> rfl

@[simp] theorem processTick_irqEn (s : State) : (processTick s).irqEn = s.irqEn := by
  unfold processTick; dsimp only; split <;> split <;> rfl

@[simp] theorem processTick_argX (s : State) : (processTick s).argX = s.argX := by
  unfold processTick; dsimp only; split <;> split <;> rfl

@[simp] theorem processTick_argY (s : State) : (processTick s).argY = s.argY := by
  unfold processTick; dsimp only; split <;> split <;> rfl

@[simp] theorem processTick_argW (s : State) : (processTick s).argW = s.argW := by
  unfold processTick; dsimp only; split <;> split <;> rfl

@[simp] theorem processTick_argH (s : State) : (processTick s).argH = s.argH := by
  unfold processTick; dsimp only; split <;> split <;> rfl

@[simp] theorem processTick_argSrc (s : State) : (processTick s).argSrc = s.argSrc := by
  unfold processTick; dsimp only; split <;> split <;> rfl

@[simp] theorem processTick_argData (s : State) : (processTick s).argData = s.argData := by
  unfold processTick; dsimp only; split <;> split <;> rfl

@[simp] theorem processTick_argMode (s : State) : (processTick s).argMode = s.argMode := by
  unfold processTick; dsimp only; split <;> split <;> rfl

@[simp] theorem processTick_argFont (s : State) : (processTick s).argFont = s.argFont := by
  unfold processTick; dsimp only; split <;> split <;> rfl

@[simp] theorem processTick_result (s : State) : (processTick s).result = s.result := by
  unfold processTick; dsimp only; split <;> split <;> rfl

@[simp] theorem processTick_screen (s : State) : (processTick s).screen = s.screen := by
  unfold processTick; dsimp only; split <;> split <;> rfl

@[simp] theorem processTick_pins (s : State) : (processTick s).pins = s.pins := by
  unfold processTick; dsimp only; split <;> split <;> rfl

@[simp] theorem processTick_pinLog (s : State) : (processTick s).pinLog = s.pinLog := by
  unfold processTick; dsimp only; split <;> split <;> rfl

@[simp] theorem processTick_txLog (s : State) : (processTick s).txLog = s.txLog := by
  unfold processTick; dsimp only; split <;> split <;> rfl

@[simp] theorem processTick_build (s : State) : (processTick s).build = s.build := by
  unfold processTick; dsimp only; split <;> split <;> rfl

@[simp] theorem processTick_periph (s : State) : (processTick s).periph = s.periph := by
  unfold processTick; dsimp only; split <;> split <;> rfl

@[simp] theorem processTick_agenda (s : State) : (processTick s).agenda = s.agenda := by
  unfold processTick; dsimp only; split <;> split <;> rfl

@[simp] theorem processTick_busLog (s : State) : (processTick s).busLog = s.busLog := by
  unfold processTick; dsimp only; split <;> split <;> rfl

@[simp] theorem processTick_draws (s : State) : (processTick s).draws = s.draws := by
  unfold processTick; dsimp only; split <;> split <;> rfl

/-! ## ServicePendingTick (46 R318) -/

@[simp] theorem servicePendingTick_fb (s : State) : (servicePendingTick s).fb = s.fb := by
  unfold servicePendingTick; split <;> [(dsimp only; split <;> simp); rfl]

@[simp] theorem servicePendingTick_src (s : State) : (servicePendingTick s).src = s.src := by
  unfold servicePendingTick; split <;> [(dsimp only; split <;> simp); rfl]

@[simp] theorem servicePendingTick_lastCmd (s : State) : (servicePendingTick s).lastCmd = s.lastCmd := by
  unfold servicePendingTick; split <;> [(dsimp only; split <;> simp); rfl]

@[simp] theorem servicePendingTick_err (s : State) : (servicePendingTick s).err = s.err := by
  unfold servicePendingTick; split <;> [(dsimp only; split <;> simp); rfl]

@[simp] theorem servicePendingTick_isOn (s : State) : (servicePendingTick s).isOn = s.isOn := by
  unfold servicePendingTick; split <;> [(dsimp only; split <;> simp); rfl]

@[simp] theorem servicePendingTick_fatal (s : State) : (servicePendingTick s).fatal = s.fatal := by
  unfold servicePendingTick; split <;> [(dsimp only; split <;> simp); rfl]

@[simp] theorem servicePendingTick_irqEn (s : State) : (servicePendingTick s).irqEn = s.irqEn := by
  unfold servicePendingTick; split <;> [(dsimp only; split <;> simp); rfl]

@[simp] theorem servicePendingTick_argX (s : State) : (servicePendingTick s).argX = s.argX := by
  unfold servicePendingTick; split <;> [(dsimp only; split <;> simp); rfl]

@[simp] theorem servicePendingTick_argY (s : State) : (servicePendingTick s).argY = s.argY := by
  unfold servicePendingTick; split <;> [(dsimp only; split <;> simp); rfl]

@[simp] theorem servicePendingTick_argW (s : State) : (servicePendingTick s).argW = s.argW := by
  unfold servicePendingTick; split <;> [(dsimp only; split <;> simp); rfl]

@[simp] theorem servicePendingTick_argH (s : State) : (servicePendingTick s).argH = s.argH := by
  unfold servicePendingTick; split <;> [(dsimp only; split <;> simp); rfl]

@[simp] theorem servicePendingTick_argSrc (s : State) : (servicePendingTick s).argSrc = s.argSrc := by
  unfold servicePendingTick; split <;> [(dsimp only; split <;> simp); rfl]

@[simp] theorem servicePendingTick_argData (s : State) : (servicePendingTick s).argData = s.argData := by
  unfold servicePendingTick; split <;> [(dsimp only; split <;> simp); rfl]

@[simp] theorem servicePendingTick_argMode (s : State) : (servicePendingTick s).argMode = s.argMode := by
  unfold servicePendingTick; split <;> [(dsimp only; split <;> simp); rfl]

@[simp] theorem servicePendingTick_argFont (s : State) : (servicePendingTick s).argFont = s.argFont := by
  unfold servicePendingTick; split <;> [(dsimp only; split <;> simp); rfl]

@[simp] theorem servicePendingTick_result (s : State) : (servicePendingTick s).result = s.result := by
  unfold servicePendingTick; split <;> [(dsimp only; split <;> simp); rfl]

@[simp] theorem servicePendingTick_screen (s : State) : (servicePendingTick s).screen = s.screen := by
  unfold servicePendingTick; split <;> [(dsimp only; split <;> simp); rfl]

@[simp] theorem servicePendingTick_pins (s : State) : (servicePendingTick s).pins = s.pins := by
  unfold servicePendingTick; split <;> [(dsimp only; split <;> simp); rfl]

@[simp] theorem servicePendingTick_pinLog (s : State) : (servicePendingTick s).pinLog = s.pinLog := by
  unfold servicePendingTick; split <;> [(dsimp only; split <;> simp); rfl]

@[simp] theorem servicePendingTick_txLog (s : State) : (servicePendingTick s).txLog = s.txLog := by
  unfold servicePendingTick; split <;> [(dsimp only; split <;> simp); rfl]

@[simp] theorem servicePendingTick_build (s : State) : (servicePendingTick s).build = s.build := by
  unfold servicePendingTick; split <;> [(dsimp only; split <;> simp); rfl]

@[simp] theorem servicePendingTick_periph (s : State) : (servicePendingTick s).periph = s.periph := by
  unfold servicePendingTick; split <;> [(dsimp only; split <;> simp); rfl]

@[simp] theorem servicePendingTick_agenda (s : State) : (servicePendingTick s).agenda = s.agenda := by
  unfold servicePendingTick; split <;> [(dsimp only; split <;> simp); rfl]

@[simp] theorem servicePendingTick_busLog (s : State) : (servicePendingTick s).busLog = s.busLog := by
  unfold servicePendingTick; split <;> [(dsimp only; split <;> simp); rfl]

@[simp] theorem servicePendingTick_draws (s : State) : (servicePendingTick s).draws = s.draws := by
  unfold servicePendingTick; split <;> [(dsimp only; split <;> simp); rfl]

/-! ## CompleteHost (40 R136) -/

@[simp] theorem completeHost_fb (e : ErrCode) (s : State) : (completeHost e s).fb = s.fb := by
  unfold completeHost; dsimp only; split <;> rfl

@[simp] theorem completeHost_src (e : ErrCode) (s : State) : (completeHost e s).src = s.src := by
  unfold completeHost; dsimp only; split <;> rfl

@[simp] theorem completeHost_lastCmd (e : ErrCode) (s : State) : (completeHost e s).lastCmd = s.lastCmd := by
  unfold completeHost; dsimp only; split <;> rfl

@[simp] theorem completeHost_isOn (e : ErrCode) (s : State) : (completeHost e s).isOn = s.isOn := by
  unfold completeHost; dsimp only; split <;> rfl

@[simp] theorem completeHost_fatal (e : ErrCode) (s : State) : (completeHost e s).fatal = s.fatal := by
  unfold completeHost; dsimp only; split <;> rfl

@[simp] theorem completeHost_tickPend (e : ErrCode) (s : State) : (completeHost e s).tickPend = s.tickPend := by
  unfold completeHost; dsimp only; split <;> rfl

@[simp] theorem completeHost_irqEn (e : ErrCode) (s : State) : (completeHost e s).irqEn = s.irqEn := by
  unfold completeHost; dsimp only; split <;> rfl

@[simp] theorem completeHost_argX (e : ErrCode) (s : State) : (completeHost e s).argX = s.argX := by
  unfold completeHost; dsimp only; split <;> rfl

@[simp] theorem completeHost_argY (e : ErrCode) (s : State) : (completeHost e s).argY = s.argY := by
  unfold completeHost; dsimp only; split <;> rfl

@[simp] theorem completeHost_argW (e : ErrCode) (s : State) : (completeHost e s).argW = s.argW := by
  unfold completeHost; dsimp only; split <;> rfl

@[simp] theorem completeHost_argH (e : ErrCode) (s : State) : (completeHost e s).argH = s.argH := by
  unfold completeHost; dsimp only; split <;> rfl

@[simp] theorem completeHost_argSrc (e : ErrCode) (s : State) : (completeHost e s).argSrc = s.argSrc := by
  unfold completeHost; dsimp only; split <;> rfl

@[simp] theorem completeHost_argData (e : ErrCode) (s : State) : (completeHost e s).argData = s.argData := by
  unfold completeHost; dsimp only; split <;> rfl

@[simp] theorem completeHost_argMode (e : ErrCode) (s : State) : (completeHost e s).argMode = s.argMode := by
  unfold completeHost; dsimp only; split <;> rfl

@[simp] theorem completeHost_argFont (e : ErrCode) (s : State) : (completeHost e s).argFont = s.argFont := by
  unfold completeHost; dsimp only; split <;> rfl

@[simp] theorem completeHost_result (e : ErrCode) (s : State) : (completeHost e s).result = s.result := by
  unfold completeHost; dsimp only; split <;> rfl

@[simp] theorem completeHost_idle (e : ErrCode) (s : State) : (completeHost e s).idle = s.idle := by
  unfold completeHost; dsimp only; split <;> rfl

@[simp] theorem completeHost_screen (e : ErrCode) (s : State) : (completeHost e s).screen = s.screen := by
  unfold completeHost; dsimp only; split <;> rfl

@[simp] theorem completeHost_pins (e : ErrCode) (s : State) : (completeHost e s).pins = s.pins := by
  unfold completeHost; dsimp only; split <;> rfl

@[simp] theorem completeHost_pinLog (e : ErrCode) (s : State) : (completeHost e s).pinLog = s.pinLog := by
  unfold completeHost; dsimp only; split <;> rfl

@[simp] theorem completeHost_txLog (e : ErrCode) (s : State) : (completeHost e s).txLog = s.txLog := by
  unfold completeHost; dsimp only; split <;> rfl

@[simp] theorem completeHost_build (e : ErrCode) (s : State) : (completeHost e s).build = s.build := by
  unfold completeHost; dsimp only; split <;> rfl

@[simp] theorem completeHost_periph (e : ErrCode) (s : State) : (completeHost e s).periph = s.periph := by
  unfold completeHost; dsimp only; split <;> rfl

@[simp] theorem completeHost_agenda (e : ErrCode) (s : State) : (completeHost e s).agenda = s.agenda := by
  unfold completeHost; dsimp only; split <;> rfl

@[simp] theorem completeHost_busLog (e : ErrCode) (s : State) : (completeHost e s).busLog = s.busLog := by
  unfold completeHost; dsimp only; split <;> rfl

@[simp] theorem completeHost_draws (e : ErrCode) (s : State) : (completeHost e s).draws = s.draws := by
  unfold completeHost; dsimp only; split <;> rfl

/-! ## CompleteInternal (40 R136) -/

@[simp] theorem completeInternal_fb (s : State) : (completeInternal s).fb = s.fb := by
  rfl

@[simp] theorem completeInternal_src (s : State) : (completeInternal s).src = s.src := by
  rfl

@[simp] theorem completeInternal_lastCmd (s : State) : (completeInternal s).lastCmd = s.lastCmd := by
  rfl

@[simp] theorem completeInternal_err (s : State) : (completeInternal s).err = s.err := by
  rfl

@[simp] theorem completeInternal_isOn (s : State) : (completeInternal s).isOn = s.isOn := by
  rfl

@[simp] theorem completeInternal_fatal (s : State) : (completeInternal s).fatal = s.fatal := by
  rfl

@[simp] theorem completeInternal_tickPend (s : State) : (completeInternal s).tickPend = s.tickPend := by
  rfl

@[simp] theorem completeInternal_irqEn (s : State) : (completeInternal s).irqEn = s.irqEn := by
  rfl

@[simp] theorem completeInternal_argX (s : State) : (completeInternal s).argX = s.argX := by
  rfl

@[simp] theorem completeInternal_argY (s : State) : (completeInternal s).argY = s.argY := by
  rfl

@[simp] theorem completeInternal_argW (s : State) : (completeInternal s).argW = s.argW := by
  rfl

@[simp] theorem completeInternal_argH (s : State) : (completeInternal s).argH = s.argH := by
  rfl

@[simp] theorem completeInternal_argSrc (s : State) : (completeInternal s).argSrc = s.argSrc := by
  rfl

@[simp] theorem completeInternal_argData (s : State) : (completeInternal s).argData = s.argData := by
  rfl

@[simp] theorem completeInternal_argMode (s : State) : (completeInternal s).argMode = s.argMode := by
  rfl

@[simp] theorem completeInternal_argFont (s : State) : (completeInternal s).argFont = s.argFont := by
  rfl

@[simp] theorem completeInternal_result (s : State) : (completeInternal s).result = s.result := by
  rfl

@[simp] theorem completeInternal_idle (s : State) : (completeInternal s).idle = s.idle := by
  rfl

@[simp] theorem completeInternal_screen (s : State) : (completeInternal s).screen = s.screen := by
  rfl

@[simp] theorem completeInternal_pins (s : State) : (completeInternal s).pins = s.pins := by
  rfl

@[simp] theorem completeInternal_pinLog (s : State) : (completeInternal s).pinLog = s.pinLog := by
  rfl

@[simp] theorem completeInternal_txLog (s : State) : (completeInternal s).txLog = s.txLog := by
  rfl

@[simp] theorem completeInternal_build (s : State) : (completeInternal s).build = s.build := by
  rfl

@[simp] theorem completeInternal_periph (s : State) : (completeInternal s).periph = s.periph := by
  rfl

@[simp] theorem completeInternal_agenda (s : State) : (completeInternal s).agenda = s.agenda := by
  rfl

@[simp] theorem completeInternal_busLog (s : State) : (completeInternal s).busLog = s.busLog := by
  rfl

@[simp] theorem completeInternal_draws (s : State) : (completeInternal s).draws = s.draws := by
  rfl

/-! ## The end of a host command's engine step (40 R135) -/

@[simp] theorem finishHost_fb (e : ErrCode) (s : State) : (finishHost e s).fb = s.fb := by
  unfold finishHost; split <;> simp

@[simp] theorem finishHost_src (e : ErrCode) (s : State) : (finishHost e s).src = s.src := by
  unfold finishHost; split <;> simp

@[simp] theorem finishHost_lastCmd (e : ErrCode) (s : State) : (finishHost e s).lastCmd = s.lastCmd := by
  unfold finishHost; split <;> simp

@[simp] theorem finishHost_isOn (e : ErrCode) (s : State) : (finishHost e s).isOn = s.isOn := by
  unfold finishHost; split <;> simp

@[simp] theorem finishHost_fatal (e : ErrCode) (s : State) : (finishHost e s).fatal = s.fatal := by
  unfold finishHost; split <;> simp

@[simp] theorem finishHost_irqEn (e : ErrCode) (s : State) : (finishHost e s).irqEn = s.irqEn := by
  unfold finishHost; split <;> simp

@[simp] theorem finishHost_argX (e : ErrCode) (s : State) : (finishHost e s).argX = s.argX := by
  unfold finishHost; split <;> simp

@[simp] theorem finishHost_argY (e : ErrCode) (s : State) : (finishHost e s).argY = s.argY := by
  unfold finishHost; split <;> simp

@[simp] theorem finishHost_argW (e : ErrCode) (s : State) : (finishHost e s).argW = s.argW := by
  unfold finishHost; split <;> simp

@[simp] theorem finishHost_argH (e : ErrCode) (s : State) : (finishHost e s).argH = s.argH := by
  unfold finishHost; split <;> simp

@[simp] theorem finishHost_argSrc (e : ErrCode) (s : State) : (finishHost e s).argSrc = s.argSrc := by
  unfold finishHost; split <;> simp

@[simp] theorem finishHost_argData (e : ErrCode) (s : State) : (finishHost e s).argData = s.argData := by
  unfold finishHost; split <;> simp

@[simp] theorem finishHost_argMode (e : ErrCode) (s : State) : (finishHost e s).argMode = s.argMode := by
  unfold finishHost; split <;> simp

@[simp] theorem finishHost_argFont (e : ErrCode) (s : State) : (finishHost e s).argFont = s.argFont := by
  unfold finishHost; split <;> simp

@[simp] theorem finishHost_result (e : ErrCode) (s : State) : (finishHost e s).result = s.result := by
  unfold finishHost; split <;> simp

@[simp] theorem finishHost_screen (e : ErrCode) (s : State) : (finishHost e s).screen = s.screen := by
  unfold finishHost; split <;> simp

@[simp] theorem finishHost_pins (e : ErrCode) (s : State) : (finishHost e s).pins = s.pins := by
  unfold finishHost; split <;> simp

@[simp] theorem finishHost_pinLog (e : ErrCode) (s : State) : (finishHost e s).pinLog = s.pinLog := by
  unfold finishHost; split <;> simp

@[simp] theorem finishHost_txLog (e : ErrCode) (s : State) : (finishHost e s).txLog = s.txLog := by
  unfold finishHost; split <;> simp

@[simp] theorem finishHost_build (e : ErrCode) (s : State) : (finishHost e s).build = s.build := by
  unfold finishHost; split <;> simp

@[simp] theorem finishHost_periph (e : ErrCode) (s : State) : (finishHost e s).periph = s.periph := by
  unfold finishHost; split <;> simp

@[simp] theorem finishHost_agenda (e : ErrCode) (s : State) : (finishHost e s).agenda = s.agenda := by
  unfold finishHost; split <;> simp

@[simp] theorem finishHost_busLog (e : ErrCode) (s : State) : (finishHost e s).busLog = s.busLog := by
  unfold finishHost; split <;> simp

@[simp] theorem finishHost_draws (e : ErrCode) (s : State) : (finishHost e s).draws = s.draws := by
  unfold finishHost; split <;> simp

/-! ## The end of AUTO_OFF's engine step (40 R135) -/

@[simp] theorem finishInternal_fb (s : State) : (finishInternal s).fb = s.fb := by
  unfold finishInternal; split <;> simp

@[simp] theorem finishInternal_src (s : State) : (finishInternal s).src = s.src := by
  unfold finishInternal; split <;> simp

@[simp] theorem finishInternal_lastCmd (s : State) : (finishInternal s).lastCmd = s.lastCmd := by
  unfold finishInternal; split <;> simp

@[simp] theorem finishInternal_err (s : State) : (finishInternal s).err = s.err := by
  unfold finishInternal; split <;> simp

@[simp] theorem finishInternal_isOn (s : State) : (finishInternal s).isOn = s.isOn := by
  unfold finishInternal; split <;> simp

@[simp] theorem finishInternal_fatal (s : State) : (finishInternal s).fatal = s.fatal := by
  unfold finishInternal; split <;> simp

@[simp] theorem finishInternal_irqEn (s : State) : (finishInternal s).irqEn = s.irqEn := by
  unfold finishInternal; split <;> simp

@[simp] theorem finishInternal_argX (s : State) : (finishInternal s).argX = s.argX := by
  unfold finishInternal; split <;> simp

@[simp] theorem finishInternal_argY (s : State) : (finishInternal s).argY = s.argY := by
  unfold finishInternal; split <;> simp

@[simp] theorem finishInternal_argW (s : State) : (finishInternal s).argW = s.argW := by
  unfold finishInternal; split <;> simp

@[simp] theorem finishInternal_argH (s : State) : (finishInternal s).argH = s.argH := by
  unfold finishInternal; split <;> simp

@[simp] theorem finishInternal_argSrc (s : State) : (finishInternal s).argSrc = s.argSrc := by
  unfold finishInternal; split <;> simp

@[simp] theorem finishInternal_argData (s : State) : (finishInternal s).argData = s.argData := by
  unfold finishInternal; split <;> simp

@[simp] theorem finishInternal_argMode (s : State) : (finishInternal s).argMode = s.argMode := by
  unfold finishInternal; split <;> simp

@[simp] theorem finishInternal_argFont (s : State) : (finishInternal s).argFont = s.argFont := by
  unfold finishInternal; split <;> simp

@[simp] theorem finishInternal_result (s : State) : (finishInternal s).result = s.result := by
  unfold finishInternal; split <;> simp

@[simp] theorem finishInternal_screen (s : State) : (finishInternal s).screen = s.screen := by
  unfold finishInternal; split <;> simp

@[simp] theorem finishInternal_pins (s : State) : (finishInternal s).pins = s.pins := by
  unfold finishInternal; split <;> simp

@[simp] theorem finishInternal_pinLog (s : State) : (finishInternal s).pinLog = s.pinLog := by
  unfold finishInternal; split <;> simp

@[simp] theorem finishInternal_txLog (s : State) : (finishInternal s).txLog = s.txLog := by
  unfold finishInternal; split <;> simp

@[simp] theorem finishInternal_build (s : State) : (finishInternal s).build = s.build := by
  unfold finishInternal; split <;> simp

@[simp] theorem finishInternal_periph (s : State) : (finishInternal s).periph = s.periph := by
  unfold finishInternal; split <;> simp

@[simp] theorem finishInternal_agenda (s : State) : (finishInternal s).agenda = s.agenda := by
  unfold finishInternal; split <;> simp

@[simp] theorem finishInternal_busLog (s : State) : (finishInternal s).busLog = s.busLog := by
  unfold finishInternal; split <;> simp

@[simp] theorem finishInternal_draws (s : State) : (finishInternal s).draws = s.draws := by
  unfold finishInternal; split <;> simp

/-! ## OnWakeTick (46 R306) -/

@[simp] theorem onWakeTick_fb (s : State) : (onWakeTick s).fb = s.fb := by
  unfold onWakeTick; split <;> [rfl; (split <;> [rfl; (split <;> [(split <;> rfl); simp])])]

@[simp] theorem onWakeTick_src (s : State) : (onWakeTick s).src = s.src := by
  unfold onWakeTick; split <;> [rfl; (split <;> [rfl; (split <;> [(split <;> rfl); simp])])]

@[simp] theorem onWakeTick_lastCmd (s : State) : (onWakeTick s).lastCmd = s.lastCmd := by
  unfold onWakeTick; split <;> [rfl; (split <;> [rfl; (split <;> [(split <;> rfl); simp])])]

@[simp] theorem onWakeTick_err (s : State) : (onWakeTick s).err = s.err := by
  unfold onWakeTick; split <;> [rfl; (split <;> [rfl; (split <;> [(split <;> rfl); simp])])]

@[simp] theorem onWakeTick_isOn (s : State) : (onWakeTick s).isOn = s.isOn := by
  unfold onWakeTick; split <;> [rfl; (split <;> [rfl; (split <;> [(split <;> rfl); simp])])]

@[simp] theorem onWakeTick_fatal (s : State) : (onWakeTick s).fatal = s.fatal := by
  unfold onWakeTick; split <;> [rfl; (split <;> [rfl; (split <;> [(split <;> rfl); simp])])]

@[simp] theorem onWakeTick_irqEn (s : State) : (onWakeTick s).irqEn = s.irqEn := by
  unfold onWakeTick; split <;> [rfl; (split <;> [rfl; (split <;> [(split <;> rfl); simp])])]

@[simp] theorem onWakeTick_argX (s : State) : (onWakeTick s).argX = s.argX := by
  unfold onWakeTick; split <;> [rfl; (split <;> [rfl; (split <;> [(split <;> rfl); simp])])]

@[simp] theorem onWakeTick_argY (s : State) : (onWakeTick s).argY = s.argY := by
  unfold onWakeTick; split <;> [rfl; (split <;> [rfl; (split <;> [(split <;> rfl); simp])])]

@[simp] theorem onWakeTick_argW (s : State) : (onWakeTick s).argW = s.argW := by
  unfold onWakeTick; split <;> [rfl; (split <;> [rfl; (split <;> [(split <;> rfl); simp])])]

@[simp] theorem onWakeTick_argH (s : State) : (onWakeTick s).argH = s.argH := by
  unfold onWakeTick; split <;> [rfl; (split <;> [rfl; (split <;> [(split <;> rfl); simp])])]

@[simp] theorem onWakeTick_argSrc (s : State) : (onWakeTick s).argSrc = s.argSrc := by
  unfold onWakeTick; split <;> [rfl; (split <;> [rfl; (split <;> [(split <;> rfl); simp])])]

@[simp] theorem onWakeTick_argData (s : State) : (onWakeTick s).argData = s.argData := by
  unfold onWakeTick; split <;> [rfl; (split <;> [rfl; (split <;> [(split <;> rfl); simp])])]

@[simp] theorem onWakeTick_argMode (s : State) : (onWakeTick s).argMode = s.argMode := by
  unfold onWakeTick; split <;> [rfl; (split <;> [rfl; (split <;> [(split <;> rfl); simp])])]

@[simp] theorem onWakeTick_argFont (s : State) : (onWakeTick s).argFont = s.argFont := by
  unfold onWakeTick; split <;> [rfl; (split <;> [rfl; (split <;> [(split <;> rfl); simp])])]

@[simp] theorem onWakeTick_result (s : State) : (onWakeTick s).result = s.result := by
  unfold onWakeTick; split <;> [rfl; (split <;> [rfl; (split <;> [(split <;> rfl); simp])])]

@[simp] theorem onWakeTick_screen (s : State) : (onWakeTick s).screen = s.screen := by
  unfold onWakeTick; split <;> [rfl; (split <;> [rfl; (split <;> [(split <;> rfl); simp])])]

@[simp] theorem onWakeTick_pins (s : State) : (onWakeTick s).pins = s.pins := by
  unfold onWakeTick; split <;> [rfl; (split <;> [rfl; (split <;> [(split <;> rfl); simp])])]

@[simp] theorem onWakeTick_pinLog (s : State) : (onWakeTick s).pinLog = s.pinLog := by
  unfold onWakeTick; split <;> [rfl; (split <;> [rfl; (split <;> [(split <;> rfl); simp])])]

@[simp] theorem onWakeTick_txLog (s : State) : (onWakeTick s).txLog = s.txLog := by
  unfold onWakeTick; split <;> [rfl; (split <;> [rfl; (split <;> [(split <;> rfl); simp])])]

@[simp] theorem onWakeTick_build (s : State) : (onWakeTick s).build = s.build := by
  unfold onWakeTick; split <;> [rfl; (split <;> [rfl; (split <;> [(split <;> rfl); simp])])]

@[simp] theorem onWakeTick_periph (s : State) : (onWakeTick s).periph = s.periph := by
  unfold onWakeTick; split <;> [rfl; (split <;> [rfl; (split <;> [(split <;> rfl); simp])])]

@[simp] theorem onWakeTick_agenda (s : State) : (onWakeTick s).agenda = s.agenda := by
  unfold onWakeTick; split <;> [rfl; (split <;> [rfl; (split <;> [(split <;> rfl); simp])])]

@[simp] theorem onWakeTick_busLog (s : State) : (onWakeTick s).busLog = s.busLog := by
  unfold onWakeTick; split <;> [rfl; (split <;> [rfl; (split <;> [(split <;> rfl); simp])])]

@[simp] theorem onWakeTick_draws (s : State) : (onWakeTick s).draws = s.draws := by
  unfold onWakeTick; split <;> [rfl; (split <;> [rfl; (split <;> [(split <;> rfl); simp])])]

/-! ## A KEEPALIVE write (46 R312) -/

@[simp] theorem keepAlive_fb (s : State) : (keepAlive s).fb = s.fb := by
  unfold keepAlive; split <;> rfl

@[simp] theorem keepAlive_src (s : State) : (keepAlive s).src = s.src := by
  unfold keepAlive; split <;> rfl

@[simp] theorem keepAlive_lastCmd (s : State) : (keepAlive s).lastCmd = s.lastCmd := by
  unfold keepAlive; split <;> rfl

@[simp] theorem keepAlive_latch (s : State) : (keepAlive s).latch = s.latch := by
  unfold keepAlive; split <;> rfl

@[simp] theorem keepAlive_err (s : State) : (keepAlive s).err = s.err := by
  unfold keepAlive; split <;> rfl

@[simp] theorem keepAlive_isOn (s : State) : (keepAlive s).isOn = s.isOn := by
  unfold keepAlive; split <;> rfl

@[simp] theorem keepAlive_fatal (s : State) : (keepAlive s).fatal = s.fatal := by
  unfold keepAlive; split <;> rfl

@[simp] theorem keepAlive_tickPend (s : State) : (keepAlive s).tickPend = s.tickPend := by
  unfold keepAlive; split <;> rfl

@[simp] theorem keepAlive_irqStatus (s : State) : (keepAlive s).irqStatus = s.irqStatus := by
  unfold keepAlive; split <;> rfl

@[simp] theorem keepAlive_irqEn (s : State) : (keepAlive s).irqEn = s.irqEn := by
  unfold keepAlive; split <;> rfl

@[simp] theorem keepAlive_argX (s : State) : (keepAlive s).argX = s.argX := by
  unfold keepAlive; split <;> rfl

@[simp] theorem keepAlive_argY (s : State) : (keepAlive s).argY = s.argY := by
  unfold keepAlive; split <;> rfl

@[simp] theorem keepAlive_argW (s : State) : (keepAlive s).argW = s.argW := by
  unfold keepAlive; split <;> rfl

@[simp] theorem keepAlive_argH (s : State) : (keepAlive s).argH = s.argH := by
  unfold keepAlive; split <;> rfl

@[simp] theorem keepAlive_argSrc (s : State) : (keepAlive s).argSrc = s.argSrc := by
  unfold keepAlive; split <;> rfl

@[simp] theorem keepAlive_argData (s : State) : (keepAlive s).argData = s.argData := by
  unfold keepAlive; split <;> rfl

@[simp] theorem keepAlive_argMode (s : State) : (keepAlive s).argMode = s.argMode := by
  unfold keepAlive; split <;> rfl

@[simp] theorem keepAlive_argFont (s : State) : (keepAlive s).argFont = s.argFont := by
  unfold keepAlive; split <;> rfl

@[simp] theorem keepAlive_result (s : State) : (keepAlive s).result = s.result := by
  unfold keepAlive; split <;> rfl

@[simp] theorem keepAlive_screen (s : State) : (keepAlive s).screen = s.screen := by
  unfold keepAlive; split <;> rfl

@[simp] theorem keepAlive_pins (s : State) : (keepAlive s).pins = s.pins := by
  unfold keepAlive; split <;> rfl

@[simp] theorem keepAlive_pinLog (s : State) : (keepAlive s).pinLog = s.pinLog := by
  unfold keepAlive; split <;> rfl

@[simp] theorem keepAlive_txLog (s : State) : (keepAlive s).txLog = s.txLog := by
  unfold keepAlive; split <;> rfl

@[simp] theorem keepAlive_build (s : State) : (keepAlive s).build = s.build := by
  unfold keepAlive; split <;> rfl

@[simp] theorem keepAlive_periph (s : State) : (keepAlive s).periph = s.periph := by
  unfold keepAlive; split <;> rfl

@[simp] theorem keepAlive_agenda (s : State) : (keepAlive s).agenda = s.agenda := by
  unfold keepAlive; split <;> rfl

@[simp] theorem keepAlive_busLog (s : State) : (keepAlive s).busLog = s.busLog := by
  unfold keepAlive; split <;> rfl

@[simp] theorem keepAlive_draws (s : State) : (keepAlive s).draws = s.draws := by
  unfold keepAlive; split <;> rfl

/-! ## PowerOnSeq (46 R302) -/

/-- What no part of a stage changes, the stage does not change. -/
theorem powerStage_keeps {α : Type} (g : State → α) {k : Nat} {act rest : State → State}
    (hh : ∀ s, g (State.halt s) = g s) (ha : ∀ s, g (act s) = g s) (hr : ∀ s, g (rest s) = g s) (s : State) :
    g (powerStage k act rest s) = g s := by
  unfold powerStage
  split
  · exact hh s
  · exact (hr _).trans (ha s)

/-- What neither the halt, nor a pin, nor the last assignments change, PowerOnSeq does not change. -/
theorem powerOnSeq_keeps {α : Type} (g : State → α) (hh : ∀ s, g (State.halt s) = g s)
    (hp : ∀ p v s, g (State.setPin p v s) = g s) (hr : ∀ s : State, g { s with isOn := true, idle := 0#16 } = g s)
    (s : State) : g (powerOnSeq s) = g s :=
  powerStage_keeps g hh (hp _ _) (powerStage_keeps g hh (hp _ _) (powerStage_keeps g hh (hp _ _)
    (powerStage_keeps g hh (hp _ _) hr))) s

/-- The same for PowerOffSeq, which may also send the clear frame. -/
theorem powerOffSeq_keeps {α : Type} (g : State → α) (clr : Bool) (hh : ∀ s, g (State.halt s) = g s)
    (ht : ∀ f s, g (State.transmit f s) = g s) (hp : ∀ p v s, g (State.setPin p v s) = g s)
    (hr : ∀ s : State, g { s with isOn := false, tickPend := false } = g s) (s : State) :
    g (powerOffSeq clr s) = g s :=
  powerStage_keeps g hh (fun s => by cases clr <;> [rfl; exact ht _ s]) (powerStage_keeps g hh (hp _ _)
    (powerStage_keeps g hh (hp _ _) (powerStage_keeps g hh (hp _ _) (powerStage_keeps g hh (hp _ _) hr)))) s

@[simp] theorem powerOnSeq_fb (s : State) : (powerOnSeq s).fb = s.fb :=
  powerOnSeq_keeps (fun t => t.fb) (fun _ => rfl) (fun _ _ _ => rfl) (fun _ => rfl) s

@[simp] theorem powerOnSeq_src (s : State) : (powerOnSeq s).src = s.src :=
  powerOnSeq_keeps (fun t => t.src) (fun _ => rfl) (fun _ _ _ => rfl) (fun _ => rfl) s

@[simp] theorem powerOnSeq_lastCmd (s : State) : (powerOnSeq s).lastCmd = s.lastCmd :=
  powerOnSeq_keeps (fun t => t.lastCmd) (fun _ => rfl) (fun _ _ _ => rfl) (fun _ => rfl) s

@[simp] theorem powerOnSeq_latch (s : State) : (powerOnSeq s).latch = s.latch :=
  powerOnSeq_keeps (fun t => t.latch) (fun _ => rfl) (fun _ _ _ => rfl) (fun _ => rfl) s

@[simp] theorem powerOnSeq_err (s : State) : (powerOnSeq s).err = s.err :=
  powerOnSeq_keeps (fun t => t.err) (fun _ => rfl) (fun _ _ _ => rfl) (fun _ => rfl) s

@[simp] theorem powerOnSeq_tickPend (s : State) : (powerOnSeq s).tickPend = s.tickPend :=
  powerOnSeq_keeps (fun t => t.tickPend) (fun _ => rfl) (fun _ _ _ => rfl) (fun _ => rfl) s

@[simp] theorem powerOnSeq_irqStatus (s : State) : (powerOnSeq s).irqStatus = s.irqStatus :=
  powerOnSeq_keeps (fun t => t.irqStatus) (fun _ => rfl) (fun _ _ _ => rfl) (fun _ => rfl) s

@[simp] theorem powerOnSeq_irqEn (s : State) : (powerOnSeq s).irqEn = s.irqEn :=
  powerOnSeq_keeps (fun t => t.irqEn) (fun _ => rfl) (fun _ _ _ => rfl) (fun _ => rfl) s

@[simp] theorem powerOnSeq_argX (s : State) : (powerOnSeq s).argX = s.argX :=
  powerOnSeq_keeps (fun t => t.argX) (fun _ => rfl) (fun _ _ _ => rfl) (fun _ => rfl) s

@[simp] theorem powerOnSeq_argY (s : State) : (powerOnSeq s).argY = s.argY :=
  powerOnSeq_keeps (fun t => t.argY) (fun _ => rfl) (fun _ _ _ => rfl) (fun _ => rfl) s

@[simp] theorem powerOnSeq_argW (s : State) : (powerOnSeq s).argW = s.argW :=
  powerOnSeq_keeps (fun t => t.argW) (fun _ => rfl) (fun _ _ _ => rfl) (fun _ => rfl) s

@[simp] theorem powerOnSeq_argH (s : State) : (powerOnSeq s).argH = s.argH :=
  powerOnSeq_keeps (fun t => t.argH) (fun _ => rfl) (fun _ _ _ => rfl) (fun _ => rfl) s

@[simp] theorem powerOnSeq_argSrc (s : State) : (powerOnSeq s).argSrc = s.argSrc :=
  powerOnSeq_keeps (fun t => t.argSrc) (fun _ => rfl) (fun _ _ _ => rfl) (fun _ => rfl) s

@[simp] theorem powerOnSeq_argData (s : State) : (powerOnSeq s).argData = s.argData :=
  powerOnSeq_keeps (fun t => t.argData) (fun _ => rfl) (fun _ _ _ => rfl) (fun _ => rfl) s

@[simp] theorem powerOnSeq_argMode (s : State) : (powerOnSeq s).argMode = s.argMode :=
  powerOnSeq_keeps (fun t => t.argMode) (fun _ => rfl) (fun _ _ _ => rfl) (fun _ => rfl) s

@[simp] theorem powerOnSeq_argFont (s : State) : (powerOnSeq s).argFont = s.argFont :=
  powerOnSeq_keeps (fun t => t.argFont) (fun _ => rfl) (fun _ _ _ => rfl) (fun _ => rfl) s

@[simp] theorem powerOnSeq_result (s : State) : (powerOnSeq s).result = s.result :=
  powerOnSeq_keeps (fun t => t.result) (fun _ => rfl) (fun _ _ _ => rfl) (fun _ => rfl) s

@[simp] theorem powerOnSeq_screen (s : State) : (powerOnSeq s).screen = s.screen :=
  powerOnSeq_keeps (fun t => t.screen) (fun _ => rfl) (fun _ _ _ => rfl) (fun _ => rfl) s

@[simp] theorem powerOnSeq_txLog (s : State) : (powerOnSeq s).txLog = s.txLog :=
  powerOnSeq_keeps (fun t => t.txLog) (fun _ => rfl) (fun _ _ _ => rfl) (fun _ => rfl) s

@[simp] theorem powerOnSeq_build (s : State) : (powerOnSeq s).build = s.build :=
  powerOnSeq_keeps (fun t => t.build) (fun _ => rfl) (fun _ _ _ => rfl) (fun _ => rfl) s

@[simp] theorem powerOnSeq_periph (s : State) : (powerOnSeq s).periph = s.periph :=
  powerOnSeq_keeps (fun t => t.periph) (fun _ => rfl) (fun _ _ _ => rfl) (fun _ => rfl) s

@[simp] theorem powerOnSeq_agenda (s : State) : (powerOnSeq s).agenda = s.agenda :=
  powerOnSeq_keeps (fun t => t.agenda) (fun _ => rfl) (fun _ _ _ => rfl) (fun _ => rfl) s

@[simp] theorem powerOnSeq_busLog (s : State) : (powerOnSeq s).busLog = s.busLog :=
  powerOnSeq_keeps (fun t => t.busLog) (fun _ => rfl) (fun _ _ _ => rfl) (fun _ => rfl) s

@[simp] theorem powerOnSeq_draws (s : State) : (powerOnSeq s).draws = s.draws :=
  powerOnSeq_keeps (fun t => t.draws) (fun _ => rfl) (fun _ _ _ => rfl) (fun _ => rfl) s

/-! ## PowerOffSeq (46 R304) -/

@[simp] theorem powerOffSeq_fb (clr : Bool) (s : State) : (powerOffSeq clr s).fb = s.fb :=
  powerOffSeq_keeps (fun t => t.fb) clr (fun _ => rfl) (fun _ _ => rfl) (fun _ _ _ => rfl) (fun _ => rfl) s

@[simp] theorem powerOffSeq_src (clr : Bool) (s : State) : (powerOffSeq clr s).src = s.src :=
  powerOffSeq_keeps (fun t => t.src) clr (fun _ => rfl) (fun _ _ => rfl) (fun _ _ _ => rfl) (fun _ => rfl) s

@[simp] theorem powerOffSeq_lastCmd (clr : Bool) (s : State) : (powerOffSeq clr s).lastCmd = s.lastCmd :=
  powerOffSeq_keeps (fun t => t.lastCmd) clr (fun _ => rfl) (fun _ _ => rfl) (fun _ _ _ => rfl) (fun _ => rfl) s

@[simp] theorem powerOffSeq_latch (clr : Bool) (s : State) : (powerOffSeq clr s).latch = s.latch :=
  powerOffSeq_keeps (fun t => t.latch) clr (fun _ => rfl) (fun _ _ => rfl) (fun _ _ _ => rfl) (fun _ => rfl) s

@[simp] theorem powerOffSeq_err (clr : Bool) (s : State) : (powerOffSeq clr s).err = s.err :=
  powerOffSeq_keeps (fun t => t.err) clr (fun _ => rfl) (fun _ _ => rfl) (fun _ _ _ => rfl) (fun _ => rfl) s

@[simp] theorem powerOffSeq_irqStatus (clr : Bool) (s : State) : (powerOffSeq clr s).irqStatus = s.irqStatus :=
  powerOffSeq_keeps (fun t => t.irqStatus) clr (fun _ => rfl) (fun _ _ => rfl) (fun _ _ _ => rfl) (fun _ => rfl) s

@[simp] theorem powerOffSeq_irqEn (clr : Bool) (s : State) : (powerOffSeq clr s).irqEn = s.irqEn :=
  powerOffSeq_keeps (fun t => t.irqEn) clr (fun _ => rfl) (fun _ _ => rfl) (fun _ _ _ => rfl) (fun _ => rfl) s

@[simp] theorem powerOffSeq_argX (clr : Bool) (s : State) : (powerOffSeq clr s).argX = s.argX :=
  powerOffSeq_keeps (fun t => t.argX) clr (fun _ => rfl) (fun _ _ => rfl) (fun _ _ _ => rfl) (fun _ => rfl) s

@[simp] theorem powerOffSeq_argY (clr : Bool) (s : State) : (powerOffSeq clr s).argY = s.argY :=
  powerOffSeq_keeps (fun t => t.argY) clr (fun _ => rfl) (fun _ _ => rfl) (fun _ _ _ => rfl) (fun _ => rfl) s

@[simp] theorem powerOffSeq_argW (clr : Bool) (s : State) : (powerOffSeq clr s).argW = s.argW :=
  powerOffSeq_keeps (fun t => t.argW) clr (fun _ => rfl) (fun _ _ => rfl) (fun _ _ _ => rfl) (fun _ => rfl) s

@[simp] theorem powerOffSeq_argH (clr : Bool) (s : State) : (powerOffSeq clr s).argH = s.argH :=
  powerOffSeq_keeps (fun t => t.argH) clr (fun _ => rfl) (fun _ _ => rfl) (fun _ _ _ => rfl) (fun _ => rfl) s

@[simp] theorem powerOffSeq_argSrc (clr : Bool) (s : State) : (powerOffSeq clr s).argSrc = s.argSrc :=
  powerOffSeq_keeps (fun t => t.argSrc) clr (fun _ => rfl) (fun _ _ => rfl) (fun _ _ _ => rfl) (fun _ => rfl) s

@[simp] theorem powerOffSeq_argData (clr : Bool) (s : State) : (powerOffSeq clr s).argData = s.argData :=
  powerOffSeq_keeps (fun t => t.argData) clr (fun _ => rfl) (fun _ _ => rfl) (fun _ _ _ => rfl) (fun _ => rfl) s

@[simp] theorem powerOffSeq_argMode (clr : Bool) (s : State) : (powerOffSeq clr s).argMode = s.argMode :=
  powerOffSeq_keeps (fun t => t.argMode) clr (fun _ => rfl) (fun _ _ => rfl) (fun _ _ _ => rfl) (fun _ => rfl) s

@[simp] theorem powerOffSeq_argFont (clr : Bool) (s : State) : (powerOffSeq clr s).argFont = s.argFont :=
  powerOffSeq_keeps (fun t => t.argFont) clr (fun _ => rfl) (fun _ _ => rfl) (fun _ _ _ => rfl) (fun _ => rfl) s

@[simp] theorem powerOffSeq_result (clr : Bool) (s : State) : (powerOffSeq clr s).result = s.result :=
  powerOffSeq_keeps (fun t => t.result) clr (fun _ => rfl) (fun _ _ => rfl) (fun _ _ _ => rfl) (fun _ => rfl) s

@[simp] theorem powerOffSeq_idle (clr : Bool) (s : State) : (powerOffSeq clr s).idle = s.idle :=
  powerOffSeq_keeps (fun t => t.idle) clr (fun _ => rfl) (fun _ _ => rfl) (fun _ _ _ => rfl) (fun _ => rfl) s

@[simp] theorem powerOffSeq_screen (clr : Bool) (s : State) : (powerOffSeq clr s).screen = s.screen :=
  powerOffSeq_keeps (fun t => t.screen) clr (fun _ => rfl) (fun _ _ => rfl) (fun _ _ _ => rfl) (fun _ => rfl) s

@[simp] theorem powerOffSeq_build (clr : Bool) (s : State) : (powerOffSeq clr s).build = s.build :=
  powerOffSeq_keeps (fun t => t.build) clr (fun _ => rfl) (fun _ _ => rfl) (fun _ _ _ => rfl) (fun _ => rfl) s

@[simp] theorem powerOffSeq_periph (clr : Bool) (s : State) : (powerOffSeq clr s).periph = s.periph :=
  powerOffSeq_keeps (fun t => t.periph) clr (fun _ => rfl) (fun _ _ => rfl) (fun _ _ _ => rfl) (fun _ => rfl) s

@[simp] theorem powerOffSeq_agenda (clr : Bool) (s : State) : (powerOffSeq clr s).agenda = s.agenda :=
  powerOffSeq_keeps (fun t => t.agenda) clr (fun _ => rfl) (fun _ _ => rfl) (fun _ _ _ => rfl) (fun _ => rfl) s

@[simp] theorem powerOffSeq_busLog (clr : Bool) (s : State) : (powerOffSeq clr s).busLog = s.busLog :=
  powerOffSeq_keeps (fun t => t.busLog) clr (fun _ => rfl) (fun _ _ => rfl) (fun _ _ _ => rfl) (fun _ => rfl) s

@[simp] theorem powerOffSeq_draws (clr : Bool) (s : State) : (powerOffSeq clr s).draws = s.draws :=
  powerOffSeq_keeps (fun t => t.draws) clr (fun _ => rfl) (fun _ _ => rfl) (fun _ _ _ => rfl) (fun _ => rfl) s

/-! ## The engine step of a host command -/

/-- Everything a host command's engine step can do (40 R135): stop because FATAL = 1, not be enabled, or complete what
`perform` left, computed from the latched snapshot. -/
theorem runHost_cases (s : State) (perform : Snapshot → State × ErrCode) :
    (s.fatal = true ∧ runHost s perform = .fault .fatalHalt) ∨
    (s.fatal = false ∧ (∀ v a, s.latch ≠ .host v a) ∧ runHost s perform = .refused .notLatched) ∨
    (∃ v a, s.fatal = false ∧ s.latch = .host v a ∧
      runHost s perform = .next (finishHost (perform a).2 (perform a).1)) := by
  unfold runHost
  cases hf : s.fatal with
  | true => exact .inl ⟨rfl, rfl⟩
  | false =>
    cases hl : s.latch with
    | empty => exact .inr (.inl ⟨rfl, by simp, rfl⟩)
    | autoOff => exact .inr (.inl ⟨rfl, by simp, rfl⟩)
    | host v a => exact .inr (.inr ⟨v, a, rfl, rfl, rfl⟩)

/-- A host command that is latched runs (40 R135). -/
theorem runHost_ready {s : State} {v : Word} {a : Snapshot} (hf : s.fatal = false) (hl : s.latch = .host v a)
    (perform : Snapshot → State × ErrCode) :
    runHost s perform = .next (finishHost (perform a).2 (perform a).1) := by
  simp [runHost, hf, hl]

/-- If a host command's engine step answers a next state, that state is what completion leaves. -/
theorem runHost_next {s t : State} {perform : Snapshot → State × ErrCode} (h : runHost s perform = .next t) :
    ∃ v a, s.fatal = false ∧ s.latch = .host v a ∧ t = finishHost (perform a).2 (perform a).1 := by
  rcases runHost_cases s perform with ⟨-, e⟩ | ⟨-, -, e⟩ | ⟨v, a, hf, hl, e⟩
  · rw [e] at h; cases h
  · rw [e] at h; cases h
  · rw [e] at h; cases h; exact ⟨v, a, hf, hl, rfl⟩

/-- The same for a command that reads SRC (41 R168). -/
theorem runHostSrc_ready {s : State} {v : Word} {a : Snapshot} (hf : s.fatal = false) (hl : s.latch = .host v a)
    (perform : Snapshot → Option (State × ErrCode)) :
    runHostSrc s perform =
      match perform a with
      | some r => .next (finishHost r.2 r.1)
      | none => .fault .unwrittenSource := by
  cases h : perform a <;> simp [runHostSrc, hf, hl, h]

theorem runHostSrc_next {s t : State} {perform : Snapshot → Option (State × ErrCode)}
    (h : runHostSrc s perform = .next t) :
    ∃ v a r, s.fatal = false ∧ s.latch = .host v a ∧ perform a = some r ∧ t = finishHost r.2 r.1 := by
  unfold runHostSrc at h
  cases hf : s.fatal with
  | true => simp [hf] at h
  | false =>
    cases hl : s.latch with
    | empty => simp [hf, hl] at h
    | autoOff => simp [hf, hl] at h
    | host v a =>
      simp only [hf, hl] at h
      cases hp : perform a with
      | none => simp [hp] at h
      | some r =>
        simp only [hp] at h
        cases h
        exact ⟨v, a, r, rfl, rfl, hp, rfl⟩

/-- With no tick held, completion is all there is at the end of an engine step (40 R135, R136). -/
theorem finishHost_noTick {e : ErrCode} {s : State} (hf : s.fatal = false) (ht : s.tickPend = false) :
    finishHost e s = completeHost e s := by
  unfold finishHost servicePendingTick
  simp [hf, ht]

/-- After a peripheral failure there is no completion (46 R316). -/
theorem finishHost_of_fatal {e : ErrCode} {s : State} (hf : s.fatal = true) : finishHost e s = s := by
  simp [finishHost, hf]

end Sys2Proof.Machine
end

