-- ==== Sys2Proof/Laws/Memory.lean ====
section
/-! SUPPORT. Laws of memory: a read after a write, and the canonical form that every memory operation keeps. -/

namespace Sys2Proof.Machine

/-! ## Reads after writes -/

theorem Memory.find_put (a c : Nat) (b : Byte) (m : Memory) :
    Memory.find c (Memory.put a b m) = if c = a then some b else Memory.find c m := by
  induction m with
  | nil => simp [Memory.put, Memory.find, eq_comm]
  | cons d m ih =>
    have eqc : (a = c) = (c = a) := propext eq_comm
    unfold Memory.put
    split
    · simp only [Memory.find, eqc]
    · split
      · rename_i h2
        simp only [Memory.find, h2, eqc]
        split <;> rfl
      · rename_i h2
        simp only [Memory.find, ih]
        by_cases hd : d.1 = c
        · have : c ≠ a := fun h => h2 (hd.trans h)
          simp [hd, this]
        · simp [hd]

theorem Memory.find_del (a c : Nat) (m : Memory) :
    Memory.find c (Memory.del a m) = if c = a then none else Memory.find c m := by
  induction m with
  | nil => simp [Memory.del, Memory.find]
  | cons d m ih =>
    unfold Memory.del at ih ⊢
    by_cases h : d.1 = a
    · rw [List.filter_cons_of_neg (by simp [h]), ih]
      by_cases hc : c = a
      · simp [hc]
      · have : d.1 ≠ c := fun e => hc (e.symm.trans h)
        simp [hc, Memory.find, this]
    · rw [List.filter_cons_of_pos (by simp [h])]
      simp only [Memory.find, ih]
      by_cases hd : d.1 = c
      · have : c ≠ a := fun e => h (hd.trans e)
        simp [hd, this]
      · simp [hd]

/-- A byte of FB after a byte write (40 R142's MemWrite). -/
theorem fbRead_fbWrite (a c : Nat) (b : Byte) (m : Memory) :
    fbRead (fbWrite a b m) c = if c = a then b else fbRead m c := by
  unfold fbRead fbWrite
  by_cases hb : b = 0x00#8
  · simp only [hb, if_true, Memory.find_del]
    by_cases hc : c = a <;> simp [hc]
  · simp only [hb, if_false, Memory.find_put]
    by_cases hc : c = a <;> simp [hc]

/-- A byte of SRC after a byte write (20 R62's MemWrite). -/
theorem srcRead_srcWrite (a c : Nat) (b : Byte) (m : Memory) :
    srcRead (srcWrite a b m) c = if c = a then some b else srcRead m c := Memory.find_put a c b m

theorem Memory.find_filter_map (f : Nat → Byte) (a : Nat) (l : List Nat) :
    Memory.find a ((l.map (fun a => (a, f a))).filter (fun c => c.2 != 0x00#8)) =
      if a ∈ l ∧ f a ≠ 0x00#8 then some (f a) else none := by
  induction l with
  | nil => simp [Memory.find]
  | cons d l ih =>
    rw [List.map_cons]
    by_cases hz : f d = 0x00#8
    · rw [List.filter_cons_of_neg (by simp [hz]), ih]
      by_cases hd : a = d
      · subst hd; simp [hz]
      · simp [hd]
    · rw [List.filter_cons_of_pos (by simp [hz])]
      simp only [Memory.find, ih]
      by_cases hd : d = a
      · subst hd; simp [hz]
      · have : a ≠ d := fun e => hd e.symm
        simp [hd, this]

/-- A byte of a tabulated FB. -/
theorem fbRead_fbTabulate (f : Nat → Byte) (a : Nat) :
    fbRead (fbTabulate f) a = if a < Config.fbBytes then f a else 0x00#8 := by
  unfold fbRead fbTabulate
  rw [Memory.find_filter_map]
  by_cases ha : a < Config.fbBytes
  · by_cases hz : f a = 0x00#8 <;> simp [ha, hz]
  · simp [ha]

/-! ## The canonical form -/

theorem Memory.rising_iff (m : Memory) : Memory.rising m = true ↔ m.Pairwise (fun c d => c.1 < d.1) := by
  induction m with
  | nil => simp [Memory.rising]
  | cons c m ih =>
    cases m with
    | nil => simp [Memory.rising]
    | cons d m =>
      rw [Memory.rising, Bool.and_eq_true, ih, decide_eq_true_iff, List.pairwise_cons (a := c)]
      constructor
      · rintro ⟨hcd, hp⟩
        refine ⟨fun e he => ?_, hp⟩
        rcases List.mem_cons.mp he with rfl | he
        · exact hcd
        · exact hcd.trans ((List.pairwise_cons.mp hp).1 e he)
      · rintro ⟨hall, hp⟩
        exact ⟨hall d (by simp), hp⟩

theorem Memory.wf_iff (size : Nat) (blank : Option Byte) (m : Memory) :
    Memory.wf size blank m = true ↔
      m.Pairwise (fun c d => c.1 < d.1) ∧ ∀ c ∈ m, c.1 < size ∧ some c.2 ≠ blank := by
  simp [Memory.wf, Memory.rising_iff]

theorem Memory.mem_put {a : Nat} {b : Byte} {m : Memory} {c : Host.Cell} (h : c ∈ Memory.put a b m) :
    c = (a, b) ∨ c ∈ m := by
  induction m with
  | nil => exact .inl (by simpa [Memory.put] using h)
  | cons d m ih =>
    unfold Memory.put at h
    split at h
    · simpa using h
    · split at h
      · rcases List.mem_cons.mp h with h | h
        · exact .inl h
        · exact .inr (List.mem_cons_of_mem _ h)
      · rcases List.mem_cons.mp h with h | h
        · exact .inr (by simp [h])
        · exact (ih h).imp id (List.mem_cons_of_mem _)

theorem Memory.pairwise_put {a : Nat} {b : Byte} {m : Memory} (h : m.Pairwise (fun c d => c.1 < d.1)) :
    (Memory.put a b m).Pairwise (fun c d => c.1 < d.1) := by
  induction m with
  | nil => simp [Memory.put]
  | cons d m ih =>
    obtain ⟨hd, hm⟩ := List.pairwise_cons.mp h
    unfold Memory.put
    split
    · rename_i had
      refine List.pairwise_cons.mpr ⟨fun e he => ?_, h⟩
      rcases List.mem_cons.mp he with rfl | he
      · exact had
      · exact had.trans (hd e he)
    · split
      · rename_i hda
        refine List.pairwise_cons.mpr ⟨fun e he => ?_, hm⟩
        have := hd e he
        simpa [← hda] using this
      · rename_i h1 h2
        refine List.pairwise_cons.mpr ⟨fun e he => ?_, ih hm⟩
        rcases Memory.mem_put he with rfl | he
        · change d.1 < a
          omega
        · exact hd e he

theorem Memory.put_wf {size a : Nat} {blank : Option Byte} {b : Byte} {m : Memory}
    (h : Memory.wf size blank m = true) (ha : a < size) (hb : some b ≠ blank) :
    Memory.wf size blank (Memory.put a b m) = true := by
  rw [Memory.wf_iff] at h ⊢
  refine ⟨Memory.pairwise_put h.1, fun c hc => ?_⟩
  rcases Memory.mem_put hc with rfl | hc
  · exact ⟨ha, hb⟩
  · exact h.2 c hc

theorem Memory.del_wf {size a : Nat} {blank : Option Byte} {m : Memory} (h : Memory.wf size blank m = true) :
    Memory.wf size blank (Memory.del a m) = true := by
  rw [Memory.wf_iff] at h ⊢
  exact ⟨h.1.filter _, fun c hc => h.2 c (List.mem_filter.mp hc).1⟩

/-- An FB write keeps FB's canonical form. -/
theorem fbWrite_wf {a : Nat} {b : Byte} {m : Memory} (h : Memory.wf Config.fbBytes fbBlank m = true)
    (ha : a < Config.fbBytes) : Memory.wf Config.fbBytes fbBlank (fbWrite a b m) = true := by
  unfold fbWrite
  split
  · exact Memory.del_wf h
  · rename_i hb
    exact Memory.put_wf h ha (by simpa [fbBlank] using hb)

/-- An SRC write keeps SRC's canonical form. -/
theorem srcWrite_wf {a : Nat} {b : Byte} {m : Memory} (h : Memory.wf Config.srcSize srcBlank m = true)
    (ha : a < Config.srcSize) : Memory.wf Config.srcSize srcBlank (srcWrite a b m) = true :=
  Memory.put_wf h ha (by simp [srcBlank])

/-- A tabulated FB is in canonical form. -/
theorem fbTabulate_wf (f : Nat → Byte) : Memory.wf Config.fbBytes fbBlank (fbTabulate f) = true := by
  rw [Memory.wf_iff]
  refine ⟨List.Pairwise.filter _ ?_, fun c hc => ?_⟩
  · rw [List.pairwise_map]
    exact List.pairwise_lt_range
  · obtain ⟨hc, hz⟩ := List.mem_filter.mp hc
    obtain ⟨a, ha, rfl⟩ := List.mem_map.mp hc
    exact ⟨List.mem_range.mp ha, by simpa [fbBlank] using hz⟩

/-- A memory that lists nothing is in canonical form. -/
theorem Memory.nil_wf (size : Nat) (blank : Option Byte) : Memory.wf size blank [] = true := by
  simp [Memory.wf, Memory.rising]

/-- The reset memories are in canonical form (70 R381, R382). -/
theorem reset_fb_wf : Memory.wf Config.fbBytes fbBlank State.reset.fb = true := Memory.nil_wf _ _

theorem reset_src_wf : Memory.wf Config.srcSize srcBlank State.reset.src = true := Memory.nil_wf _ _

theorem Memory.find_none_of_lt {m : Memory} {a : Nat} (h : ∀ c ∈ m, a < c.1) : Memory.find a m = none := by
  induction m with
  | nil => rfl
  | cons d m ih =>
    have hd := h d (by simp)
    rw [Memory.find, if_neg (by omega)]
    exact ih fun c hc => h c (List.mem_cons_of_mem _ hc)

theorem Memory.ext_of_find {m n : Memory} (hm : m.Pairwise (fun c d => c.1 < d.1))
    (hn : n.Pairwise (fun c d => c.1 < d.1)) (h : ∀ a, Memory.find a m = Memory.find a n) : m = n := by
  induction m generalizing n with
  | nil =>
    cases n with
    | nil => rfl
    | cons d n => simpa [Memory.find] using h d.1
  | cons c m ih =>
    cases n with
    | nil => simpa [Memory.find] using h c.1
    | cons d n =>
      obtain ⟨hc, hm⟩ := List.pairwise_cons.mp hm
      obtain ⟨hd, hn'⟩ := List.pairwise_cons.mp hn
      have hcd : c.1 = d.1 := by
        rcases Nat.lt_trichotomy c.1 d.1 with hlt | heq | hgt
        · have := h c.1
          rw [Memory.find, if_pos rfl, Memory.find_none_of_lt] at this
          · simp at this
          · intro e he
            rcases List.mem_cons.mp he with rfl | he
            · exact hlt
            · exact hlt.trans (hd e he)
        · exact heq
        · have := h d.1
          rw [Memory.find_none_of_lt (m := c :: m), Memory.find, if_pos rfl] at this
          · simp at this
          · intro e he
            rcases List.mem_cons.mp he with rfl | he
            · exact hgt
            · exact hgt.trans (hc e he)
      have hb : c.2 = d.2 := by simpa [Memory.find, hcd] using h c.1
      have : c = d := Prod.ext hcd hb
      subst this
      congr 1
      refine ih hm hn' fun a => ?_
      by_cases ha : c.1 = a
      · rw [Memory.find_none_of_lt fun e he => ha ▸ hc e he, Memory.find_none_of_lt fun e he => ha ▸ hd e he]
      · simpa [Memory.find, ha] using h a

/-- FB memories in canonical form that read alike are the same data. -/
theorem fb_ext {m n : Memory} (hm : Memory.wf Config.fbBytes fbBlank m = true)
    (hn : Memory.wf Config.fbBytes fbBlank n = true) (h : ∀ a, fbRead m a = fbRead n a) : m = n := by
  rw [Memory.wf_iff] at hm hn
  have nz : ∀ {k : Memory}, (∀ c ∈ k, c.1 < Config.fbBytes ∧ some c.2 ≠ fbBlank) →
      ∀ a, Memory.find a k ≠ some 0x00#8 := by
    intro k hk a
    induction k with
    | nil => simp [Memory.find]
    | cons d k ih =>
      rw [Memory.find]
      split
      · simpa [fbBlank] using (hk d (by simp)).2
      · exact ih fun c hc => hk c (List.mem_cons_of_mem _ hc)
  refine Memory.ext_of_find hm.1 hn.1 fun a => ?_
  have h1 := nz hm.2 a
  have h2 := nz hn.2 a
  have h3 := h a
  unfold fbRead at h3
  cases e1 : Memory.find a m with
  | none =>
    cases e2 : Memory.find a n with
    | none => rfl
    | some b => rw [e1, e2] at h3; rw [e2] at h2; exact absurd (congrArg some h3.symm) h2
  | some b =>
    cases e2 : Memory.find a n with
    | none => rw [e1, e2] at h3; rw [e1] at h1; exact absurd (congrArg some h3) h1
    | some b' => rw [e1, e2] at h3; exact congrArg some h3

end Sys2Proof.Machine
end

