-- ==== Sys2Proof/Laws/PerInstr.lean ====
section
/-! SUPPORT. The family RoundTrip: a well-formed instruction that has a command word is what that word decodes to
(spec 30 R90, R91, 40 R139); one lemma per constructor of Instr. -/

namespace Sys2Proof.Laws.RoundTrip

/-- Decoding the command word of a well-formed instruction gives the instruction back. -/
def Statement (i : Instr) : Prop := WellFormed i → ∀ w, encode i = some w → decode w = i

/-- An instruction whose one word decodes to it. -/
theorem of_word {i : Instr} {w : Word} (he : encode i = some w) (hd : decode w = i) : Statement i := by
  intro _ v hv
  rw [he] at hv
  cases hv
  exact hd

/-- An instruction with no word. -/
theorem of_none {i : Instr} (he : encode i = none) : Statement i := by
  intro _ v hv
  rw [he] at hv
  cases hv

theorem nop : Statement .nop := of_word rfl (by decide)
theorem clear : Statement .clear := of_word rfl (by decide)
theorem fill : Statement .fill := of_word rfl (by decide)
theorem invert : Statement .invert := of_word rfl (by decide)
theorem testPattern : Statement .testPattern := of_word rfl (by decide)
theorem drawImage : Statement .drawImage := of_word rfl (by decide)
theorem fillRect : Statement .fillRect := of_word rfl (by decide)
theorem bitblt24 : Statement .bitblt24 := of_word rfl (by decide)
theorem drawChar : Statement .drawChar := of_word rfl (by decide)
theorem drawString : Statement .drawString := of_word rfl (by decide)
theorem refresh : Statement .refresh := of_word rfl (by decide)
theorem writeLine : Statement .writeLine := of_word rfl (by decide)
theorem powerOn : Statement .powerOn := of_word rfl (by decide)
theorem powerOff : Statement .powerOff := of_word rfl (by decide)

/-- An OP value outside the map finds no row. -/
theorem lookup_none {op : BitVec 8} (h : legalOps.contains op = false) : opLookup op opcodeMap = none := by
  revert op
  decide

theorem illegal (word : Word) : Statement (.illegal word) := by
  intro hw v hv
  cases hv
  have hw : legalWord word = false := by simpa [WellFormed, Instr.wellFormed] using hw
  unfold decode
  split
  · rename_i hr
    have hop : legalOps.contains (opField word) = false := by
      simp only [rsvField] at hr
      simpa [legalWord, opField, hr] using hw
    rw [lookup_none hop]
    rfl
  · rfl

theorem autoOff : Statement .autoOff := of_none rfl
theorem wirePriming : Statement .wirePriming := of_none rfl
theorem wireChunk (first lines : Nat) : Statement (.wireChunk first lines) := of_none rfl
theorem wireLine (row : Nat) : Statement (.wireLine row) := of_none rfl
theorem wireClear : Statement .wireClear := of_none rfl
theorem keepaliveWrite (value : Word) : Statement (.keepaliveWrite value) := of_none rfl
theorem wakeTick : Statement .wakeTick := of_none rfl

end Sys2Proof.Laws.RoundTrip
end

