-- ==== Sys2Proof/Laws/Pixel.lean ====
section
/-! SUPPORT. Laws of pixels (spec 40 R140 to R143, R147): what a pixel operation does to each pixel, and that every drawing
loop keeps FB's canonical form. -/

namespace Sys2Proof.Machine

/-- An on-screen pixel lies in one of the 12,000 bytes (40 R147). -/
theorem pixelAddr_lt {px py : Int} (h : OnScreen px py) : pixelAddr px py < Config.fbBytes := by
  obtain ⟨h1, h2, h3, h4⟩ := h
  unfold pixelAddr
  have e1 : (Config.width : Int) = 400 := rfl
  have e2 : (Config.height : Int) = 240 := rfl
  have e3 : Config.rowBytes = 50 := rfl
  have e4 : Config.fbBytes = 12000 := rfl
  rw [e1] at h2
  rw [e2] at h4
  rw [e3, e4]
  omega

theorem pixelBit_lt (px : Int) : pixelBit px < 8 := by
  unfold pixelBit
  omega

/-- Two on-screen pixels in the same bit of the same byte are one pixel (10 R21). -/
theorem pixel_unique {px py qx qy : Int} (hp : OnScreen px py) (hq : OnScreen qx qy)
    (ha : pixelAddr px py = pixelAddr qx qy) (hb : pixelBit px = pixelBit qx) : px = qx ∧ py = qy := by
  obtain ⟨h1, h2, h3, h4⟩ := hp
  obtain ⟨k1, k2, k3, k4⟩ := hq
  have e1 : (Config.width : Int) = 400 := rfl
  have e3 : Config.rowBytes = 50 := rfl
  unfold pixelAddr at ha
  unfold pixelBit at hb
  rw [e1] at h2 k2
  rw [e3] at ha
  omega

theorem getLsbD_withBit (b : Byte) (k j : Nat) (v : Bool) (hj : j < 8) (hk : k < 8) :
    (withBit b k v).getLsbD j = if j = k then v else b.getLsbD j := by
  unfold withBit
  by_cases hjk : j = k
  · subst hjk
    cases v <;> simp [hj]
  · rcases Nat.lt_or_gt_of_ne hjk with hlt | hgt
    · cases v <;> simp [hj, hjk, hlt]
    · have : ¬ j < k := by omega
      have h0 : j - k ≠ 0 := by omega
      cases v <;> simp [hj, hjk, this, h0]

/-- Off screen, Apply does nothing (40 R143). -/
theorem applyPixel_off {op : PixOp} {px py : Int} {s : Bool} {m : Memory} (h : ¬ OnScreen px py) :
    applyPixel op px py s m = m := by
  simp only [applyPixel, if_neg h]

/-- What Apply does to each pixel of the screen (40 R143). -/
theorem getPixel_applyPixel {op : PixOp} {px py qx qy : Int} {s : Bool} {m : Memory} (hq : OnScreen qx qy) :
    getPixel (applyPixel op px py s m) qx qy =
      if px = qx ∧ py = qy then combine op (getPixel m qx qy) s else getPixel m qx qy := by
  by_cases hp : OnScreen px py
  · simp only [applyPixel, putPixel, if_pos hp]
    unfold getPixel
    rw [fbRead_fbWrite]
    by_cases ha : pixelAddr qx qy = pixelAddr px py
    · rw [if_pos ha, getLsbD_withBit _ _ _ _ (pixelBit_lt _) (pixelBit_lt _)]
      by_cases hb : pixelBit qx = pixelBit px
      · obtain ⟨rfl, rfl⟩ := pixel_unique hq hp ha hb
        simp
      · have : ¬ (px = qx ∧ py = qy) := fun h => hb (by rw [h.1])
        rw [if_neg hb, if_neg this, ha]
    · have : ¬ (px = qx ∧ py = qy) := fun h => ha (by rw [h.1, h.2])
      rw [if_neg ha, if_neg this]
  · have : ¬ (px = qx ∧ py = qy) := fun h => hp (by rw [h.1, h.2]; exact hq)
    rw [applyPixel_off hp, if_neg this]

/-- Apply reaches no byte outside FB (40 R147). -/
theorem fbRead_applyPixel_outside {op : PixOp} {px py : Int} {s : Bool} {m : Memory} {a : Nat}
    (ha : Config.fbBytes ≤ a) : fbRead (applyPixel op px py s m) a = fbRead m a := by
  by_cases hp : OnScreen px py
  · simp only [applyPixel, putPixel, if_pos hp]
    rw [fbRead_fbWrite, if_neg]
    exact fun h => absurd (pixelAddr_lt hp) (by omega)
  · rw [applyPixel_off hp]

/-- Apply keeps FB's canonical form. -/
theorem applyPixel_wf {op : PixOp} {px py : Int} {s : Bool} {m : Memory}
    (h : Memory.wf Config.fbBytes fbBlank m = true) :
    Memory.wf Config.fbBytes fbBlank (applyPixel op px py s m) = true := by
  by_cases hp : OnScreen px py
  · simp only [applyPixel, putPixel, if_pos hp]
    exact fbWrite_wf h (pixelAddr_lt hp)
  · rwa [applyPixel_off hp]

/-- A property of FB that each pass of a loop keeps holds at the loop's end. -/
theorem foldl_keeps {α : Type} (P : Memory → Prop) (f : Memory → α → Memory) (hf : ∀ m a, P m → P (f m a))
    (l : List α) (m : Memory) (h : P m) : P (l.foldl f m) := by
  induction l generalizing m with
  | nil => exact h
  | cons a l ih => exact ih _ (hf m a h)

/-- Whatever property Apply keeps, a blit keeps (41 R161). -/
theorem blitImage_keeps (P : Memory → Prop) (hP : ∀ op px py s m, P m → P (applyPixel op px py s m))
    (byteAt : Nat → Byte) (w h : Nat) (x y : Int) (set lsb : Bool) (m : Memory) (hm : P m) :
    P (blitImage byteAt w h x y set lsb m) :=
  foldl_keeps P _ (fun m _ hm => foldl_keeps P _ (fun m _ hm => hP _ _ _ _ m hm) _ m hm) _ m hm

/-- Whatever property Apply keeps, a rectangle keeps (42 R180). -/
theorem applyRect_keeps (P : Memory → Prop) (hP : ∀ op px py s m, P m → P (applyPixel op px py s m))
    (op : PixOp) (x y : Int) (w h : Nat) (m : Memory) (hm : P m) : P (applyRect op x y w h m) :=
  foldl_keeps P _ (fun m _ hm => foldl_keeps P _ (fun m _ hm => hP _ _ _ _ m hm) _ m hm) _ m hm

/-- Whatever property Apply keeps, a run keeps (42 R182). -/
theorem applyRun_keeps (P : Memory → Prop) (hP : ∀ op px py s m, P m → P (applyPixel op px py s m))
    (a : Snapshot) (n : Nat) (m : Memory) (hm : P m) : P (applyRun a n m) :=
  foldl_keeps P _ (fun m _ hm => hP _ _ _ _ m hm) _ m hm

/-- Whatever property Apply keeps, a string keeps (43 R213). -/
theorem stringLoop_keeps (P : Memory → Prop) (hP : ∀ op px py s m, P m → P (applyPixel op px py s m))
    (f : Font) (src : Memory) (y : Int) (set : Bool) (left p : Nat) (cur : Int) (m : Memory) (hm : P m)
    {e : StringEnd} (he : stringLoop f src y set left p cur m = some e) : P e.fb := by
  induction left generalizing p cur m with
  | zero =>
    cases he
    exact hm
  | succ left ih =>
    rw [stringLoop] at he
    split at he
    · cases he
      exact hm
    · split at he
      · cases he
      · split at he
        · cases he
          exact hm
        · split at he
          · cases he
            exact hm
          · exact ih _ _ _ (blitImage_keeps P hP _ _ _ _ _ _ _ m hm) he

/-- The drawing loops keep FB's canonical form, and so write no byte outside it (40 R147). -/
theorem blitImage_wf (byteAt : Nat → Byte) (w h : Nat) (x y : Int) (set lsb : Bool) {m : Memory}
    (hm : Memory.wf Config.fbBytes fbBlank m = true) :
    Memory.wf Config.fbBytes fbBlank (blitImage byteAt w h x y set lsb m) = true :=
  blitImage_keeps (fun k => Memory.wf Config.fbBytes fbBlank k = true) (fun _ _ _ _ _ h => applyPixel_wf h) _ _ _ _ _ _ _ m hm

theorem applyRect_wf (op : PixOp) (x y : Int) (w h : Nat) {m : Memory}
    (hm : Memory.wf Config.fbBytes fbBlank m = true) :
    Memory.wf Config.fbBytes fbBlank (applyRect op x y w h m) = true :=
  applyRect_keeps (fun k => Memory.wf Config.fbBytes fbBlank k = true) (fun _ _ _ _ _ h => applyPixel_wf h) _ _ _ _ _ m hm

theorem applyRun_wf (a : Snapshot) (n : Nat) {m : Memory} (hm : Memory.wf Config.fbBytes fbBlank m = true) :
    Memory.wf Config.fbBytes fbBlank (applyRun a n m) = true :=
  applyRun_keeps (fun k => Memory.wf Config.fbBytes fbBlank k = true) (fun _ _ _ _ _ h => applyPixel_wf h) _ _ m hm

theorem stringLoop_wf {f : Font} {src : Memory} {y : Int} {set : Bool} {left p : Nat} {cur : Int} {m : Memory}
    (hm : Memory.wf Config.fbBytes fbBlank m = true) {e : StringEnd}
    (he : stringLoop f src y set left p cur m = some e) : Memory.wf Config.fbBytes fbBlank e.fb = true :=
  stringLoop_keeps (fun k => Memory.wf Config.fbBytes fbBlank k = true) (fun _ _ _ _ _ h => applyPixel_wf h) _ _ _ _ _ _ _ m hm he

/-- A pixel of a byte built from pixels (10 R21). -/
theorem getLsbD_byteOfPixels (g : Nat → Bool) (i : Nat) (hi : i < 8) :
    (byteOfPixels g).getLsbD (7 - i) = g i := by
  have hl : List.range 8 = [0, 1, 2, 3, 4, 5, 6, 7] := rfl
  unfold byteOfPixels
  rw [hl]
  simp only [List.foldl]
  interval_cases i <;> simp (disch := omega) only [getLsbD_withBit] <;> simp

/-- A pixel of the FB given by its pixels. -/
theorem getPixel_fbOfPixels (g : Nat → Nat → Bool) {px py : Int} (h : OnScreen px py) :
    getPixel (fbOfPixels g) px py = g px.toNat py.toNat := by
  unfold getPixel fbOfPixels
  rw [fbRead_fbTabulate, if_pos (pixelAddr_lt h)]
  obtain ⟨h1, h2, h3, h4⟩ := h
  have e1 : (Config.width : Int) = 400 := rfl
  have e3 : Config.rowBytes = 50 := rfl
  rw [e1] at h2
  rw [pixelBit, getLsbD_byteOfPixels _ _ (Nat.mod_lt _ (by decide))]
  unfold pixelAddr
  rw [e3]
  congr 1 <;> omega

end Sys2Proof.Machine
end

