-- ==== Sys2Proof/Tests/Slice0.lean ====
section
/-! SUPPORT. Tests. Expected values come from spec/95_test_vectors.md (vector names in the comments) or are written out
from the encodings of spec 30; and one witness for the hypotheses of each statement in Certificates/Slice0. -/

namespace Sys2Proof.Tests

set_option Elab.async false

open Sys2Proof.Machine Sys2Proof.Claims

/-! ## Helpers -/

/-- Test font T0 of 95_test_vectors. -/
def font0 : Font :=
  ⟨5, 1, 127, (List.range 128).flatMap fun c => if c = 0x20 then [0x00#8, 0x00#8] else [0xFC#8, 0x84#8]⟩

/-- Test font T1 of 95_test_vectors. -/
def font1 : Font := ⟨9, 0, 255, (List.range 256).flatMap fun c => [BitVec.ofNat 8 c, 0xC0#8]⟩

/-- The parameters of 95_test_vectors: CHUNK_LINES = 240, the two test fonts. -/
def testBuild : Build := ⟨239, [font0, font1]⟩

/-- Reset, with the test parameters. -/
def base : State := { State.reset with build := testBuild }

/-- The snapshot of all ARG registers 0. -/
def zeroOps : Snapshot := snapshotOf base

/-- A command word latched with operands `a`. -/
def latched (w : Word) (a : Snapshot) (s : State) : State := { s with latch := .host w a }

/-- SRC bytes listed from offset `a` on. -/
def srcFrom (a : Nat) (bytes : List Byte) (s : State) : State :=
  { s with src := (List.range bytes.length).map fun i => (a + i, bytes.getD i 0x00#8) }

/-- The outcome is a next state with property `p`. -/
def after (o : Out) (p : State → Bool) : Bool :=
  match o with
  | .next t => p t
  | .fault _ => false
  | .refused _ => false

/-- The outcome is the fault `f`. -/
def faultedWith (o : Out) (f : Fault) : Bool :=
  match o with
  | .next _ => false
  | .fault g => f = g
  | .refused _ => false

/-- FB holds exactly the nonzero bytes listed. -/
def fbIs (s : State) (m : Memory) : Bool := s.fb == m

/-- The display on, as vector N1 leaves it. -/
def powered : State :=
  { base with isOn := true, pins := ⟨true, true, true, true⟩, irqStatus := 0x01#6 }

/-- AUTO_OFF latched, as vector N6 leaves it. -/
def expiring : State := { powered with latch := .autoOff, idle := 300#16 }

/-- FATAL in POWER_ON, as vector N12 leaves it. -/
def dead : State :=
  { latched 0x40#32 zeroOps base with fatal := true, pins := ⟨true, true, false, false⟩, periph := some 2 }

/-! ## WellFormed -/

theorem test_wellFormed_accepts :
    WellFormed (.wireChunk 238 2) ∧ WellFormed (.wireLine 239) ∧ WellFormed (.illegal 0x00000101#32) ∧
      WellFormed (.wireChunk 0 240) := by decide

theorem test_wellFormed_refuses_illegal_of_a_command : ¬ WellFormed (.illegal 0x00000030#32) := by decide

theorem test_wellFormed_refuses_chunk_of_no_line : ¬ WellFormed (.wireChunk 0 0) := by decide

theorem test_wellFormed_refuses_chunk_past_last_row : ¬ WellFormed (.wireChunk 239 2) := by decide

theorem test_wellFormed_refuses_line_past_last_row : ¬ WellFormed (.wireLine 240) := by decide

/-! ## Decoding: words written out from 30 R90 to R92 (OP bits 7:0, RSV bits 31:8) -/

theorem test_decode_whole_buffer :
    decode 0b00000000000000000000000000000000#32 = .nop ∧ decode 0b00000000000000000000000000000001#32 = .clear ∧
    decode 0b00000000000000000000000000000010#32 = .fill ∧ decode 0b00000000000000000000000000000011#32 = .invert ∧
    decode 0b00000000000000000000000000000100#32 = .testPattern := by decide

theorem test_decode_drawing :
    decode 0b00000000000000000000000000010000#32 = .drawImage ∧
    decode 0b00000000000000000000000000010001#32 = .fillRect ∧
    decode 0b00000000000000000000000000010010#32 = .bitblt24 ∧
    decode 0b00000000000000000000000000100000#32 = .drawChar ∧
    decode 0b00000000000000000000000000100001#32 = .drawString := by decide

theorem test_decode_refresh_and_power :
    decode 0b00000000000000000000000000110000#32 = .refresh ∧
    decode 0b00000000000000000000000000110001#32 = .writeLine ∧
    decode 0b00000000000000000000000001000000#32 = .powerOn ∧
    decode 0b00000000000000000000000001000001#32 = .powerOff := by decide

/-- Every OP no row assigns, and every RSV bit, makes a word illegal (30 R92, R93; vectors E1, E2). -/
theorem test_decode_illegal :
    decode 0x00000005#32 = .illegal 0x00000005#32 ∧ decode 0x000000FF#32 = .illegal 0x000000FF#32 ∧
    decode 0x00000101#32 = .illegal 0x00000101#32 ∧ decode 0x80000030#32 = .illegal 0x80000030#32 := by decide

theorem test_encode_words :
    encode .writeLine = some 0x31#32 ∧ encode .powerOff = some 0x41#32 ∧ encode .autoOff = none ∧
      encode .wakeTick = none := by decide

theorem test_decodeTableWord :
    decodeTableWord 32 0x31 = some .writeLine ∧ decodeTableWord 8 0x21 = some .drawString ∧
      decodeTableWord 40 0x31 = none := by decide

/-- 30 R102: the priming frame and the clear frame. -/
theorem test_decode_short_frames :
    decodeFrame [0x00#8] = .ok .wirePriming ∧ decodeFrame [0x04#8, 0x00#8] = .ok .wireClear ∧
    decodeFrame [0x04#8, 0x01#8] = .error .badTrailer ∧ decodeFrame [0x02#8] = .error (.unknownCommand 0x02#8) ∧
    decodeFrame [] = .error .empty := by decide

/-- Vector F5: the single-line frame of row 239. -/
theorem test_decode_line_frame :
    decodeFrame ([0x01#8, 0xF0#8] ++ List.replicate 50 0xFF#8 ++ [0x00#8, 0x00#8]) = .ok (.wireLine 239) := by
  decide +kernel

/-- 30 R104: a chunk of rows 238 and 239. -/
theorem test_decode_chunk_frame :
    decodeFrame ([0x01#8, 0xEF#8] ++ List.replicate 50 0xFF#8 ++ [0x00#8, 0xF0#8] ++ List.replicate 50 0x01#8 ++
      [0x00#8, 0x00#8]) = .ok (.wireChunk 238 2) := by decide +kernel

/-- A line number out of turn, row 240, and a length of no frame are refused. -/
theorem test_decode_bad_frames :
    decodeFrame ([0x01#8, 0xEF#8] ++ List.replicate 50 0xFF#8 ++ [0x00#8, 0xEF#8] ++ List.replicate 50 0x01#8 ++
      [0x00#8, 0x00#8]) = .error .badLineNumber ∧
    decodeFrame ([0x01#8, 0xF1#8] ++ List.replicate 50 0xFF#8 ++ [0x00#8, 0x00#8]) = .error .badLineNumber ∧
    decodeFrame ([0x01#8, 0x01#8] ++ List.replicate 49 0xFF#8 ++ [0x00#8, 0x00#8]) = .error .badLength := by
  decide +kernel

/-! ## Commands: one step each -/

/-- X7. -/
theorem test_nop :
    after (step (latched 0x00#32 zeroOps base)) (fun t => fbIs t [] && statusWord t == 0#32 && t.irqStatus == 0x01#6) =
      true := by decide +kernel

/-- X6. -/
theorem test_clear :
    after (step (latched 0x01#32 zeroOps { base with fb := [(0, 0xA5#8), (11999, 0x01#8)] })) (fun t => fbIs t []) =
      true := by decide +kernel

/-- X3. -/
theorem test_fill_set :
    ∃ t, exec .fill (latched 0x02#32 { zeroOps with color := 1#2 } base) = .next t ∧ fbRead t.fb 0 = 0xFF#8 ∧
      fbRead t.fb 11999 = 0xFF#8 := by
  simp only [exec, execFill]
  rw [runHost_ready (v := 0x02#32) (a := { zeroOps with color := 1#2 }) rfl rfl]
  refine ⟨_, rfl, ?_, ?_⟩ <;>
    simp [Snapshot.twoColor, Snapshot.isSet, fbRead_fbTabulate]

/-- X4. -/
theorem test_fill_bad_arg :
    after (step (latched 0x02#32 { zeroOps with color := 2#2 } base))
      (fun t => fbIs t [] && statusWord t == 0x200#32 && t.irqStatus == 0x03#6) = true := by decide +kernel

/-- X1. -/
theorem test_invert :
    ∃ t, exec .invert (latched 0x03#32 zeroOps { base with fb := [(0, 0xA5#8)] }) = .next t ∧
      fbRead t.fb 0 = 0x5A#8 ∧ fbRead t.fb 11999 = 0xFF#8 := by
  simp only [exec, execInvert]
  rw [runHost_ready (v := 0x03#32) (a := zeroOps) rfl rfl]
  refine ⟨_, rfl, ?_, ?_⟩ <;>
    simp [fbRead_fbTabulate, latched] <;> decide

/-- P2. -/
theorem test_testPattern_3 :
    ∃ t, exec .testPattern (latched 0x04#32 { zeroOps with data := 3#32 } base) = .next t ∧
      fbRead t.fb 0 = 0x1C#8 ∧ fbRead t.fb 1 = 0x71#8 ∧ fbRead t.fb 150 = 0xE3#8 := by
  simp only [exec, execTestPattern]
  rw [runHost_ready (v := 0x04#32) (a := { zeroOps with data := 3#32 }) rfl rfl]
  refine ⟨_, rfl, ?_, ?_, ?_⟩ <;>
    simp [fbOfPixels, fbRead_fbTabulate] <;> decide

/-- P4 to P6: the clamp, and two bytes of squares of 32. -/
theorem test_testPattern_clamped :
    squareSize 100 = 32 ∧ squareSize 0 = 1 ∧ squareSize 0x80000000 = 32 ∧
    byteOfPixels (fun i => checker 32 (8 * 12 + i) 0) = 0xFF#8 ∧ byteOfPixels (fun i => checker 32 (8 * 48 + i) 0) = 0x00#8 :=
  by decide +kernel

/-- I2: LSB-first. I7: two rows of stride 2, the padding ignored. -/
theorem test_drawImage :
    after (step (latched 0x10#32 { zeroOps with x := 16#16, w := 8#16, h := 1#16, color := 1#2, order := true }
      (srcFrom 0 [0x01#8] base))) (fun t => fbIs t [(2, 0x80#8)] && t.err == .none) = true ∧
    after (step (latched 0x10#32 { zeroOps with x := 4#16, w := 12#16, h := 2#16, color := 1#2 }
      (srcFrom 0 [0xFF#8, 0xF0#8, 0x80#8, 0x10#8] base)))
      (fun t => fbIs t [(0, 0x0F#8), (1, 0xFF#8), (50, 0x08#8), (51, 0x01#8)]) = true := by decide +kernel

/-- I16. -/
theorem test_drawImage_unwritten :
    faultedWith (step (latched 0x10#32 { zeroOps with w := 8#16, h := 1#16, color := 1#2 } base)) .unwrittenSource =
      true := by decide +kernel

/-- FR3. -/
theorem test_fillRect_clipped :
    after (step (latched 0x11#32 { zeroOps with x := 390#16, y := 239#16, w := 20#16, h := 5#16, color := 1#2 } base))
      (fun t => fbIs t [(11998, 0x03#8), (11999, 0xFF#8)]) = true := by decide +kernel

/-- FR2, with COLOR = INVERT on zeros. -/
theorem test_fillRect_negative_x :
    after (step (latched 0x11#32 { zeroOps with x := 0xFFFB#16, w := 10#16, h := 1#16, color := 2#2 } base))
      (fun t => fbIs t [(0, 0xF8#8)]) = true := by decide +kernel

/-- B9. -/
theorem test_bitblt24_low_bits :
    after (step (latched 0x12#32 { zeroOps with w := 4#16, data := 0xFFFFF5#32 } base))
      (fun t => fbIs t [(0, 0x50#8)]) = true := by decide +kernel

/-- B5. -/
theorem test_bitblt24_force :
    after (step (latched 0x12#32 { zeroOps with w := 5#16, bltop := 1#2, force := true }
      { base with fb := [(0, 0xFF#8), (1, 0xFF#8)] })) (fun t => fbIs t [(0, 0x07#8), (1, 0xFF#8)]) = true := by
  decide +kernel

/-- G1. -/
theorem test_drawChar :
    after (step (latched 0x20#32 { zeroOps with x := 1#16, data := 0x41#32, color := 1#2 } base))
      (fun t => fbIs t [(1, 0xFC#8), (51, 0x84#8)] && t.result == 14#32) = true := by decide +kernel

/-- G6: wholly clipped, a negative cursor. -/
theorem test_drawChar_negative :
    after (step (latched 0x20#32 { zeroOps with x := 0xFFF6#16, data := 0x41#32, color := 1#2 } base))
      (fun t => fbIs t [] && t.result == 0xFFFFFFFE#32) = true := by decide +kernel

/-- S3. -/
theorem test_drawString_glyphRange :
    after (step (latched 0x21#32 { zeroOps with color := 1#2 } (srcFrom 0 [0x41#8, 0x80#8, 0x42#8, 0x00#8] base)))
      (fun t => fbIs t [(0, 0xFC#8), (50, 0x84#8)] && t.err == .glyphRange && t.result == 6#32) = true := by
  decide +kernel

/-- S11, with the byte past the stop unwritten: "stop before reading 0x80"; and S6. -/
theorem test_drawString_right_edge :
    after (step (latched 0x21#32 { zeroOps with x := 390#16, color := 1#2 } (srcFrom 0 [0x41#8] base)))
      (fun t => fbIs t [(49, 0xFC#8), (99, 0x84#8)] && t.err == .none && t.result == 398#32) = true ∧
    after (step (latched 0x21#32 { zeroOps with src := 16382#16, color := 1#2 } (srcFrom 16382 [0x41#8, 0x41#8] base)))
      (fun t => fbIs t [(0, 0xFC#8), (1, 0xFC#8), (50, 0x84#8), (51, 0x84#8)] && t.err == .srcRange &&
        t.result == 14#32) = true := by decide +kernel

/-- F2. -/
theorem test_refresh_frames :
    after (step (latched 0x30#32 zeroOps { base with build := ⟨99, []⟩ }))
      (fun t => t.txLog.map (fun f => (f.length, f.getD 1 0#8)) == [(1, 0#8), (5202, 1#8), (5202, 101#8), (2082, 201#8)]) =
      true := by decide +kernel

/-- F5. -/
theorem test_writeLine :
    after (step (latched 0x31#32 { zeroOps with y := 239#16 } { base with fb := [(11950, 0xFF#8), (11999, 0x0F#8)] }))
      (fun t => t.txLog == [[0x01#8, 0xF0#8, 0xFF#8] ++ List.replicate 48 0x00#8 ++ [0x0F#8, 0x00#8, 0x00#8]]) =
      true := by decide +kernel

/-- F7. -/
theorem test_writeLine_off_screen :
    after (step (latched 0x31#32 { zeroOps with y := 0xFFFF#16 } base)) (fun t => t.txLog == [] && t.err == .none) =
      true := by decide +kernel

/-- N1. -/
theorem test_powerOn :
    after (step (latched 0x40#32 zeroOps base)) (fun t => statusWord t == 0x000F0002#32 &&
      t.pinLog == [(.boostEn, true), (.dispEn, true), (.extcominEn, true), (.wakeArm, true)]) = true := by
  decide +kernel

/-- N12. -/
theorem test_powerOn_fails :
    after (step (latched 0x40#32 zeroOps { base with periph := some 2 })) (fun t => statusWord t == 0x00030005#32 &&
      t.pinLog == [(.boostEn, true), (.dispEn, true)] && t.irqStatus == 0#6) = true := by decide +kernel

/-- N2. -/
theorem test_powerOff :
    after (step (latched 0x41#32 { zeroOps with clr := true } powered)) (fun t => statusWord t == 0#32 &&
      t.txLog == [[0x04#8, 0x00#8]] &&
      t.pinLog == [(.dispEn, false), (.extcominEn, false), (.boostEn, false), (.wakeArm, false)]) = true := by
  decide +kernel

/-- N4. -/
theorem test_powerOff_while_off :
    after (step (latched 0x41#32 { zeroOps with clr := true } base)) (fun t => t.txLog == [] && t.pinLog == [] &&
      t.err == .none) = true := by decide +kernel

/-- E1. -/
theorem test_illegal :
    after (step (latched 0x05#32 zeroOps base)) (fun t => statusWord t == 0x100#32 && t.irqStatus == 0x03#6) = true := by
  decide +kernel

/-- N6: the engine step of AUTO_OFF. -/
theorem test_autoOff :
    after (step expiring) (fun t => statusWord t == 0#32 && t.txLog == [[0x04#8, 0x00#8]] && t.irqStatus == 0x09#6 &&
      t.idle == 300#16) = true := by decide +kernel

/-- N6: the tick that latches AUTO_OFF. -/
theorem test_wakeTick_expires :
    after (exec .wakeTick { powered with idle := 299#16 }) (fun t => statusWord t == 0x000F0013#32 && t.idle == 300#16) =
      true := by decide +kernel

/-- N8: the tick held while BUSY, processed at completion. -/
theorem test_wakeTick_held :
    after (exec .wakeTick (latched 0x00#32 zeroOps { powered with screen := 1#8 }))
      (fun t => statusWord t == 0x000F000B#32 && after (exec .nop t) (fun u => u.idle == 1#16 && u.irqStatus == 0x05#6)) =
      true := by decide +kernel

/-- N13. -/
theorem test_keepalive :
    after (exec (.keepaliveWrite 0xFFFFFFFF#32) { powered with idle := 299#16 }) (fun t => t.idle == 0#16) = true := by
  decide +kernel

/-- N12: ignored while FATAL. -/
theorem test_keepalive_fatal :
    after (exec (.keepaliveWrite 0#32) { dead with idle := 7#16 }) (fun t => t.idle == 7#16) = true := by decide +kernel

theorem test_wirePriming : after (exec .wirePriming base) (fun t => t.txLog == [[0x00#8]]) = true := by decide +kernel

theorem test_wireClear : after (exec .wireClear base) (fun t => t.txLog == [[0x04#8, 0x00#8]]) = true := by decide +kernel

theorem test_wireChunk :
    after (exec (.wireChunk 238 2) { base with fb := [(11900, 0xA5#8)] }) (fun t => t.txLog ==
      [[0x01#8, 0xEF#8, 0xA5#8] ++ List.replicate 49 0x00#8 ++ [0x00#8, 0xF0#8] ++ List.replicate 50 0x00#8 ++
        [0x00#8, 0x00#8]]) = true := by decide +kernel

theorem test_wireLine :
    after (exec (.wireLine 0) { base with fb := [(49, 0xA5#8)] }) (fun t => t.txLog ==
      [[0x01#8, 0x01#8] ++ List.replicate 49 0x00#8 ++ [0xA5#8, 0x00#8, 0x00#8]]) = true := by decide +kernel

/-! ## Bus, reset, step -/

/-- A step on one host access. -/
def onBus (a : Access) (s : State) : Out := step { s with agenda := [.access a] }

/-- E11. -/
theorem test_bus_constants :
    after (onBus (.read 0x08#16 .b4) base) (fun t => t.busLog == [⟨false, some 0x02F0012C#32⟩]) = true ∧
    after (onBus (.read 0x04#16 .b4) base) (fun t => t.busLog == [⟨false, some 0x00F00190#32⟩]) = true := by
  decide +kernel

/-- E6. -/
theorem test_bus_mode_mask :
    after (onBus (.write 0x38#16 .b4 0xFFFFFFFF#32) base) (fun t => t.argMode == 0x177#32) = true := by decide +kernel

/-- E7, E8, E9. -/
theorem test_bus_slverr :
    after (onBus (.write 0x10#16 .b2 1#32) base) (fun t => t.busLog == [⟨true, none⟩] && !t.busy) = true ∧
    after (onBus (.write 0x8000#16 .b1 0xFF#32) base) (fun t => t.busLog == [⟨true, none⟩] && fbIs t []) = true ∧
    after (onBus (.read 0x100#16 .b4) base) (fun t => t.busLog == [⟨true, some 0#32⟩]) = true := by decide +kernel

/-- E12. -/
theorem test_bus_little_endian :
    after (onBus (.write 0x4000#16 .b4 0x44332211#32) base) (fun t =>
      after (onBus (.read 0x4002#16 .b1) t) (fun u => u.busLog == [⟨false, none⟩, ⟨false, some 0x33#32⟩])) = true := by
  decide +kernel

/-- E13. -/
theorem test_bus_src_write_while_busy :
    after (onBus (.write 0x4000#16 .b1 0x12#32) (latched 0x00#32 zeroOps base)) (fun t => t.src == [] &&
      t.irqStatus == 0x10#6 && t.busLog == [⟨false, none⟩]) = true := by decide +kernel

/-- 20 R80: a read of written SRC bytes and of CMD while BUSY = 1. -/
theorem test_bus_reads_while_busy :
    after (onBus (.read 0x4000#16 .b2) (latched 0x00#32 zeroOps (srcFrom 0 [0x11#8, 0x22#8] base)))
      (fun t => t.busLog == [⟨false, some 0x2211#32⟩]) = true ∧
    after (onBus (.read 0x10#16 .b4) { latched 0x30#32 zeroOps base with lastCmd := 0x30#32 })
      (fun t => t.busLog == [⟨false, some 0x30#32⟩]) = true := by decide +kernel

/-- N11, and 40 R131: accepted when idle, dropped with OVR while AUTO_OFF is latched. -/
theorem test_bus_cmd :
    after (onBus (.write 0x10#16 .b4 0x30#32) { base with argX := 5#16 }) (fun t =>
      t.latch == .host 0x30#32 { zeroOps with x := 5#16 } && t.lastCmd == 0x30#32) = true ∧
    after (onBus (.write 0x10#16 .b4 0x00#32) expiring) (fun t => t.latch == .autoOff && t.irqStatus == 0x11#6) =
      true := by decide +kernel

/-- E5. -/
theorem test_irq_level :
    irqOut { base with irqStatus := 0x03#6 } = false ∧ irqOut { base with irqStatus := 0x03#6, irqEn := 0x02#6 } = true :=
  by decide

/-- 70 R383: the pins that were 1 fall, DISP_EN first. -/
theorem test_reset_step :
    after (step { dead with agenda := [.reset] }) (fun t => statusWord t == 0#32 &&
      t.pinLog == [(.dispEn, false), (.boostEn, false)]) = true := by decide +kernel

theorem test_withFetchWord :
    after (step (State.reset.withFetchWord 32 0x31)) (fun t => t.txLog.length == 1 && !t.busy) = true := by
  decide +kernel

/-- 30 R107: SRCB and RUN as events. -/
theorem test_script :
    (Stmt.srcb 0x100#16 [0x01#8, 0x03#8]).events =
      [.access (.write 0x4100#16 .b1 0x01#32), .access (.write 0x4101#16 .b1 0x03#32)] ∧
    (Stmt.run 0x30#32).events = [.access (.write 0x10#16 .b4 0x30#32), .poll] := by decide

/-! ## Witnesses: for each statement with hypotheses, data that meet them -/

theorem ready_latched (w : Word) (a : Snapshot) (s : State) (h : s.fatal = false) : Ready (latched w a s) a :=
  ⟨h, w, rfl⟩

/-- An outcome that `after` accepts is a next state. -/
theorem next_of_after (o : Out) (h : after o (fun _ => true) = true) : ∃ t, o = .next t := by
  cases o with
  | next t => exact ⟨t, rfl⟩
  | fault f => simp [after] at h
  | refused r => simp [after] at h

theorem inv_powered : Inv powered := by constructor <;> decide

theorem inv_expiring : Inv expiring := by constructor <;> decide

theorem inv_dead : Inv dead := by constructor <;> decide

/-- FB and SRC not empty, a tick held, IDLE at its last value but one. -/
def crowded : State :=
  { latched 0x10#32 zeroOps powered with
    fb := [(0, 0x80#8), (11999, 0x01#8)], src := [(3, 0x00#8), (16383, 0xFF#8)], tickPend := true, idle := 299#16,
    argMode := 0x177#32 }

theorem inv_crowded : Inv crowded := by constructor <;> decide

theorem witness_ResetStep :
    ∃ (s : State) (rest : List Event), s.agenda = .reset :: rest ∧ s.pins.dispEn = true ∧ rest ≠ [] :=
  ⟨{ crowded with agenda := [.reset, .tick] }, [.tick], rfl, rfl, by decide⟩

theorem witness_DecodeOfEncodedFrame_rows :
    ∀ r, r < 240 → ((fun _ => List.replicate 50 0xFF#8 : Nat → List Byte) r).length = 50 := by simp

theorem witness_DecodeOfEncodedFrame :
    WellFormed (.wireChunk 239 1) ∧ WellFormed (.wireChunk 0 240) ∧ WellFormed (.wireLine 239) ∧ WellFormed .wireClear ∧
    (∃ bytes, encodeFrame (fun _ => List.replicate 50 0xFF#8) (.wireChunk 239 1) = some bytes) ∧
    (∃ bytes, encodeFrame (fun _ => List.replicate 50 0xFF#8) (.wireChunk 0 240) = some bytes) ∧
    (∃ bytes, encodeFrame (fun _ => List.replicate 50 0xFF#8) (.wireLine 239) = some bytes) :=
  ⟨by decide, by decide, by decide, by decide, ⟨_, rfl⟩, ⟨_, rfl⟩, ⟨_, rfl⟩⟩

theorem witness_StepRunsLatchedWord :
    (∃ (s : State) (v : Word) (a : Snapshot), s.agenda = [] ∧ s.fatal = false ∧ s.latch = .host v a) ∧
    ∃ (s : State) (v : Word) (a : Snapshot) (rest : List Event),
      s.agenda = .engine :: rest ∧ s.fatal = false ∧ s.latch = .host v a :=
  ⟨⟨crowded, _, _, rfl, rfl, rfl⟩, ⟨{ crowded with agenda := [.engine, .tick] }, _, _, _, rfl, rfl, rfl⟩⟩

theorem witness_StepRunsAutoOff :
    (∃ s : State, s.agenda = [] ∧ s.fatal = false ∧ s.latch = .autoOff) ∧
    ∃ (s : State) (rest : List Event), s.agenda = .engine :: rest ∧ s.fatal = false ∧ s.latch = .autoOff :=
  ⟨⟨expiring, rfl, rfl, rfl⟩, ⟨{ expiring with agenda := [.engine, .tick] }, _, rfl, rfl, rfl⟩⟩

theorem witness_StepRunsTickAndKeepalive :
    (∃ (s : State) (rest : List Event), s.agenda = .tick :: rest) ∧
    ∃ (s : State) (rest : List Event) (v : Word), s.agenda = .access (.write 0x48#16 .b4 v) :: rest :=
  ⟨⟨{ crowded with agenda := [.tick] }, [], rfl⟩, ⟨{ crowded with agenda := [.access (.write 0x48#16 .b4 1#32)] }, [], 1#32, rfl⟩⟩

/-- The one hypothesis of NopOnlyCompletes, IllegalOnlyReports, ClearZeroesEveryByte, InvertComplementsEveryByte,
TestPatternIsCheckerboard: also with a tick held. -/
theorem witness_Ready : Ready crowded zeroOps ∧ crowded.tickPend = true := ⟨ready_latched _ _ _ rfl, rfl⟩

theorem witness_FillWritesEveryByte (c : BitVec 2) :
    ∃ a, Ready (latched 0x02#32 a powered) a ∧ a.color = c :=
  ⟨{ zeroOps with color := c }, ready_latched _ _ _ rfl, rfl⟩

theorem witness_InvertTwiceRestores :
    ∃ (s t u : State) (a b : Snapshot), Inv s ∧ Ready s a ∧ exec .invert s = .next t ∧ Ready u b ∧ u.fb = t.fb := by
  obtain ⟨t, h⟩ := next_of_after (exec .invert crowded) rfl
  exact ⟨crowded, t, { crowded with fb := t.fb }, zeroOps, zeroOps, inv_crowded, ready_latched _ _ _ rfl, h, ⟨rfl, _, rfl⟩, rfl⟩

theorem witness_FillSetThenEmptyIsClear :
    ∃ (s t u w : State) (a b c : Snapshot), Ready s a ∧ a.color = 1#2 ∧ exec .fill s = .next t ∧ Ready u b ∧
      b.color = 0#2 ∧ u.fb = t.fb ∧ Ready w c := by
  obtain ⟨t, h⟩ := next_of_after (exec .fill (latched 0x02#32 { zeroOps with color := 1#2 } powered)) rfl
  exact ⟨_, t, { crowded with fb := t.fb }, crowded, { zeroOps with color := 1#2 }, zeroOps, zeroOps,
    ready_latched _ _ _ rfl, rfl, h, ⟨rfl, _, rfl⟩, rfl, rfl, ⟨rfl, _, rfl⟩⟩

/-- An image of one byte at the last byte of SRC. -/
def lastByteImage : Snapshot := { zeroOps with w := 8#16, h := 1#16, src := 16383#16, color := 1#2 }

theorem witness_DrawImageSetsImagePixels :
    Ready (latched 0x10#32 lastByteImage (srcFrom 16383 [0xFF#8] base)) lastByteImage ∧
    (lastByteImage.color = 0#2 ∨ lastByteImage.color = 1#2) ∧ 0 < lastByteImage.w.toNat ∧ 0 < lastByteImage.h.toNat ∧
    lastByteImage.src.toNat + (lastByteImage.w.toNat + 7) / 8 * lastByteImage.h.toNat = 16384 ∧
    ∀ i, i < (lastByteImage.w.toNat + 7) / 8 * lastByteImage.h.toNat →
      srcRead (srcFrom 16383 [0xFF#8] base).src (lastByteImage.src.toNat + i) ≠ none :=
  ⟨ready_latched _ _ _ rfl, by decide, by decide, by decide, by decide, by decide⟩

theorem witness_DrawImageRefusals :
    (∃ a : Snapshot, Ready (latched 0x10#32 a base) a ∧ a.color = 3#2) ∧
    (∃ a : Snapshot, Ready (latched 0x10#32 a base) a ∧ a.color = 1#2 ∧ a.w.toNat = 0 ∧ 0 < a.h.toNat) ∧
    (∃ a : Snapshot, Ready (latched 0x10#32 a base) a ∧ a.color = 0#2 ∧ 0 < a.w.toNat ∧ a.h.toNat = 0) ∧
    ∃ a : Snapshot, Ready (latched 0x10#32 a base) a ∧ a.color = 1#2 ∧ 0 < a.w.toNat ∧ 0 < a.h.toNat ∧
      a.src.toNat + (a.w.toNat + 7) / 8 * a.h.toNat = 16385 :=
  ⟨⟨{ zeroOps with color := 3#2 }, ready_latched _ _ _ rfl, rfl⟩,
   ⟨{ zeroOps with color := 1#2, h := 5#16 }, ready_latched _ _ _ rfl, rfl, by decide, by decide⟩,
   ⟨{ zeroOps with w := 5#16 }, ready_latched _ _ _ rfl, rfl, by decide, by decide⟩,
   ⟨{ lastByteImage with w := 9#16 }, ready_latched _ _ _ rfl, rfl, by decide, by decide, by decide⟩⟩

theorem witness_DrawImageUnwrittenFaults :
    Ready (latched 0x10#32 lastByteImage base) lastByteImage ∧ (lastByteImage.color = 0#2 ∨ lastByteImage.color = 1#2) ∧
    0 < lastByteImage.w.toNat ∧ 0 < lastByteImage.h.toNat ∧
    lastByteImage.src.toNat + (lastByteImage.w.toNat + 7) / 8 * lastByteImage.h.toNat ≤ 16384 ∧
    0 < (lastByteImage.w.toNat + 7) / 8 * lastByteImage.h.toNat ∧ srcRead base.src (lastByteImage.src.toNat + 0) = none :=
  ⟨ready_latched _ _ _ rfl, by decide, by decide, by decide, by decide, by decide, by decide⟩

theorem witness_ImageSetThenEmptyRestores :
    ∃ (s t u v : State) (a b : Snapshot), Ready s a ∧ a.color = 1#2 ∧ exec .drawImage s = .next t ∧ Ready u b ∧
      b = { a with color := 0#2 } ∧ u.fb = t.fb ∧ u.src = s.src ∧ exec .drawImage u = .next v ∧
      ∀ px py : Nat, px < 400 → py < 240 → within a.x.toInt a.w.toNat px = true →
        within a.y.toInt a.h.toNat py = true →
        imageBit (fun i => (srcRead s.src (a.src.toNat + i)).getD 0x00#8) a.w.toNat a.order
          ((px : Int) - a.x.toInt).toNat ((py : Int) - a.y.toInt).toNat = true → pix s.fb px py = false := by
  obtain ⟨t, h⟩ := next_of_after
    (exec .drawImage (latched 0x10#32 lastByteImage (srcFrom 16383 [0x0F#8] base))) rfl
  obtain ⟨v, h'⟩ := next_of_after
    (exec .drawImage (latched 0x10#32 { lastByteImage with color := 0#2 } { srcFrom 16383 [0x0F#8] base with fb := t.fb })) rfl
  exact ⟨_, t, latched 0x10#32 _ { srcFrom 16383 [0x0F#8] base with fb := t.fb }, v, lastByteImage, _,
    ready_latched _ _ _ rfl, rfl, h, ready_latched _ _ _ rfl, rfl, rfl, rfl, h',
    fun px py _ _ _ _ _ => by simp [pix, fbRead, Memory.find, latched, srcFrom, base, State.reset]⟩

theorem witness_FillRect :
    (∃ a : Snapshot, Ready (latched 0x11#32 a base) a ∧ a.color = 3#2) ∧
    ∃ (a : Snapshot) (t : State), Ready (latched 0x11#32 a base) a ∧ a.color ≠ 3#2 ∧
      exec .fillRect (latched 0x11#32 a base) = .next t :=
  ⟨⟨{ zeroOps with color := 3#2 }, ready_latched _ _ _ rfl, rfl⟩,
   ⟨{ zeroOps with x := 0xFFFB#16, w := 65535#16, h := 1#16, color := 2#2 }, _, ready_latched _ _ _ rfl, by decide, rfl⟩⟩

theorem witness_Bitblt24CombinesRun :
    (∃ a : Snapshot, Ready (latched 0x12#32 a base) a ∧ a.bltop = 3#2) ∧
    (∃ a : Snapshot, Ready (latched 0x12#32 a base) a ∧ a.bltop ≠ 3#2 ∧ a.w.toNat = 25) ∧
    ∃ a : Snapshot, Ready (latched 0x12#32 a base) a ∧ a.bltop ≠ 3#2 ∧ a.w.toNat = 24 :=
  ⟨⟨{ zeroOps with bltop := 3#2 }, ready_latched _ _ _ rfl, rfl⟩,
   ⟨{ zeroOps with w := 25#16 }, ready_latched _ _ _ rfl, by decide, rfl⟩,
   ⟨{ zeroOps with w := 24#16 }, ready_latched _ _ _ rfl, by decide, rfl⟩⟩

theorem witness_DrawCharDrawsGlyph :
    (∃ a : Snapshot, Ready (latched 0x20#32 a base) a ∧ a.color = 2#2) ∧
    (∃ a : Snapshot, Ready (latched 0x20#32 a base) a ∧ a.color = 1#2 ∧ fontAt base.build a.font.toNat = none) ∧
    (∃ a : Snapshot, Ready (latched 0x20#32 a base) a ∧ a.color = 1#2 ∧ fontAt base.build a.font.toNat = some font0 ∧
      font0.count = a.data.toNat % 256) ∧
    ∃ a : Snapshot, Ready (latched 0x20#32 a base) a ∧ a.color = 0#2 ∧ fontAt base.build a.font.toNat = some font1 ∧
      ¬ font1.count ≤ a.data.toNat % 256 :=
  ⟨⟨{ zeroOps with color := 2#2 }, ready_latched _ _ _ rfl, rfl⟩,
   ⟨{ zeroOps with color := 1#2, font := 2#8 }, ready_latched _ _ _ rfl, rfl, rfl⟩,
   ⟨{ zeroOps with color := 1#2, data := 0x80#32 }, ready_latched _ _ _ rfl, rfl, rfl, by decide⟩,
   ⟨{ zeroOps with font := 1#8, data := 0xFF#32 }, ready_latched _ _ _ rfl, rfl, rfl, by decide⟩⟩

theorem witness_DrawStringDrawsNothing :
    (∃ a : Snapshot, Ready (latched 0x21#32 a base) a ∧ a.color = 3#2) ∧
    (∃ a : Snapshot, Ready (latched 0x21#32 a base) a ∧ a.color = 1#2 ∧ fontAt base.build a.font.toNat = none) ∧
    (∃ a : Snapshot, Ready (latched 0x21#32 a base) a ∧ a.color = 1#2 ∧ fontAt base.build a.font.toNat ≠ none ∧
      16384 = a.src.toNat) ∧
    ∃ a : Snapshot, Ready (latched 0x21#32 a (srcFrom 16383 [0x00#8] base)) a ∧ a.color = 1#2 ∧
      fontAt base.build a.font.toNat ≠ none ∧ a.src.toNat < 16384 ∧
      srcRead (srcFrom 16383 [0x00#8] base).src a.src.toNat = some 0x00#8 :=
  ⟨⟨{ zeroOps with color := 3#2 }, ready_latched _ _ _ rfl, rfl⟩,
   ⟨{ zeroOps with color := 1#2, font := 2#8 }, ready_latched _ _ _ rfl, rfl, rfl⟩,
   ⟨{ zeroOps with color := 1#2, src := 16384#16 }, ready_latched _ _ _ rfl, rfl, by decide +kernel, by decide⟩,
   ⟨{ zeroOps with color := 1#2, src := 16383#16 }, ready_latched _ _ _ rfl, rfl, by decide +kernel, by decide, by decide⟩⟩

/-- One character at the last offset but one, or at the last: for the clauses of DrawStringTakesOneCharacter. -/
theorem witness_DrawStringTakesOneCharacter (c : Byte) (x : Half) (src : Half) (h : src.toNat < 16384) :
    ∃ (s : State) (v : Word) (a : Snapshot), s.fatal = false ∧ s.latch = .host v a ∧ (a.color = 0#2 ∨ a.color = 1#2) ∧
      fontAt s.build a.font.toNat = some font0 ∧ a.src.toNat < 16384 ∧ srcRead s.src a.src.toNat = some c ∧ a.x = x ∧
      a.src = src :=
  ⟨latched 0x21#32 { zeroOps with x := x, src := src, color := 1#2 } { base with src := [(src.toNat, c)] }, _, _,
   rfl, rfl, .inr rfl, rfl, h, if_pos rfl, rfl, rfl⟩

theorem witness_DrawStringTakesOneCharacter_clauses :
    400 ≤ up8 (393#16).toInt ∧ up8 (392#16).toInt < 400 ∧ font0.count ≤ (0x80#8).toNat ∧ (0x7F#8).toNat < font0.count ∧
      (0x80#8 ≠ 0x00#8) ∧ (0x7F#8 ≠ 0x00#8) ∧ (16382#16).toNat + 1 < 16384 ∧ (16383#16).toNat + 1 = 16384 := by decide

/-- A string whose terminator is the last byte of SRC. -/
def lastString : State := latched 0x21#32 { zeroOps with x := 384#16, src := 16381#16, color := 1#2 }
  (srcFrom 16381 [0x41#8, 0x42#8, 0x00#8] base)

theorem witness_TerminatedStringCompletes :
    ∃ (a : Snapshot) (n : Nat), Ready lastString a ∧ (a.color = 0#2 ∨ a.color = 1#2) ∧ a.src.toNat + n = 16383 ∧
      (∀ i, i ≤ n → srcRead lastString.src (a.src.toNat + i) ≠ none) ∧
      srcRead lastString.src (a.src.toNat + n) = some 0x00#8 :=
  ⟨_, 2, ready_latched _ _ _ rfl, .inr rfl, rfl, by decide, rfl⟩

theorem witness_StringCursorSpacing :
    ∃ (a : Snapshot) (n : Nat) (code : Nat → Byte), Ready lastString a ∧ (a.color = 0#2 ∨ a.color = 1#2) ∧
      fontAt lastString.build a.font.toNat = some font0 ∧ a.src.toNat + n + 1 = 16383 ∧
      (∀ i, i ≤ n → srcRead lastString.src (a.src.toNat + i) = some (code i) ∧ code i ≠ 0x00#8 ∧
        (code i).toNat < font0.count) ∧
      srcRead lastString.src (a.src.toNat + n + 1) = some 0x00#8 ∧ up8 a.x.toInt + n * up8 font0.width < 400 :=
  ⟨_, 1, fun i => if i = 0 then 0x41#8 else 0x42#8, ready_latched _ _ _ rfl, .inr rfl, rfl, rfl, by decide, rfl,
    by decide⟩

theorem witness_DrawStringUnwrittenFaults :
    ∃ a : Snapshot, Ready (latched 0x21#32 a base) a ∧ (a.color = 0#2 ∨ a.color = 1#2) ∧
      fontAt base.build a.font.toNat ≠ none ∧ a.src.toNat < 16384 ∧ up8 a.x.toInt < 400 ∧
      srcRead base.src a.src.toNat = none :=
  ⟨{ zeroOps with x := 392#16, src := 16383#16 }, ready_latched _ _ _ rfl, .inl rfl, by decide +kernel, by decide,
   by decide, rfl⟩

theorem witness_RefreshSendsChunks :
    Ready (latched 0x30#32 zeroOps { base with build := ⟨99, []⟩ }) zeroOps ∧
      2 * ({ base with build := ⟨99, []⟩ } : State).build.chunkLines < 240 ∧
      ({ base with build := ⟨99, []⟩ } : State).build.chunkLines = 100 :=
  ⟨ready_latched _ _ _ rfl, by decide, by decide⟩

theorem witness_RefreshTotalBytes :
    ∃ t : State, Ready (latched 0x30#32 zeroOps powered) zeroOps ∧
      exec .refresh (latched 0x30#32 zeroOps powered) = .next t := by
  obtain ⟨t, h⟩ := next_of_after (exec .refresh (latched 0x30#32 zeroOps powered)) rfl
  exact ⟨t, ready_latched _ _ _ rfl, h⟩

theorem witness_RefreshByOneIsWriteLines :
    Ready (latched 0x30#32 zeroOps { base with build := ⟨0, []⟩ }) zeroOps ∧
      ({ base with build := ⟨0, []⟩ } : State).build.chunkLines = 1 := ⟨ready_latched _ _ _ rfl, rfl⟩

theorem witness_WriteLineSendsRow :
    (∃ a : Snapshot, Ready (latched 0x31#32 a base) a ∧ a.y.toInt = -1) ∧
    (∃ a : Snapshot, Ready (latched 0x31#32 a base) a ∧ a.y.toInt = 240) ∧
    ∃ a : Snapshot, Ready (latched 0x31#32 a base) a ∧ a.y.toInt = (239 : Nat) :=
  ⟨⟨{ zeroOps with y := 0xFFFF#16 }, ready_latched _ _ _ rfl, by decide⟩,
   ⟨{ zeroOps with y := 240#16 }, ready_latched _ _ _ rfl, by decide⟩,
   ⟨{ zeroOps with y := 239#16 }, ready_latched _ _ _ rfl, by decide⟩⟩

theorem witness_WireFramesAppendToLog :
    base.build.chunkLines = 240 ∧ (1 ≤ 240 ∧ 0 + 240 ≤ 240) ∧ (1 ≤ 1 ∧ 239 + 1 ≤ 240) := by decide

/-- Every failure point, and a state without one. -/
theorem witness_PowerOnSequence (f : FailAt) :
    Ready (latched 0x40#32 zeroOps { base with periph := f }) zeroOps := ready_latched _ _ _ rfl

theorem witness_failPoints :
    failPoint { base with periph := some 3 } < 4 ∧ failPoint { base with periph := some 4 } = 4 ∧
      failPoint base = 5 := by decide

theorem witness_PowerOffSequence :
    (Ready (latched 0x41#32 zeroOps base) zeroOps ∧ (latched 0x41#32 zeroOps base).isOn = false) ∧
    (Ready (latched 0x41#32 zeroOps { powered with periph := some 4 }) zeroOps ∧
      (latched 0x41#32 zeroOps { powered with periph := some 4 }).isOn = true ∧
      failPoint (latched 0x41#32 zeroOps { powered with periph := some 4 }) < 5) ∧
    (Ready (latched 0x41#32 zeroOps powered) zeroOps ∧ (latched 0x41#32 zeroOps powered).isOn = true ∧
      failPoint (latched 0x41#32 zeroOps powered) = 5) :=
  ⟨⟨ready_latched _ _ _ rfl, rfl⟩, ⟨ready_latched _ _ _ rfl, rfl, by decide⟩, ⟨ready_latched _ _ _ rfl, rfl, by decide⟩⟩

theorem witness_AutoOffSequence :
    (expiring.fatal = false ∧ expiring.latch = .autoOff ∧ failPoint expiring = 5) ∧
    (({ expiring with periph := some 4 } : State).fatal = false ∧
      ({ expiring with periph := some 4 } : State).latch = .autoOff ∧ failPoint { expiring with periph := some 4 } < 5) := by
  decide

theorem witness_IdleTimeoutProperty :
    powered.isOn = true ∧ powered.fatal = false ∧ powered.latch = .empty ∧ powered.tickPend = false ∧
      powered.idle = 0#16 ∧ powered.periph = none := by decide

theorem witness_FatalStopsEngine : isCommand .powerOn = true ∧ dead.fatal = true := by decide

theorem witness_FatalLeftOnlyByReset :
    ∃ s t : State, s.fatal = true ∧ s.latch ≠ .empty ∧ step s = (.next t : Out) ∧ s.agenda.head? ≠ some .reset :=
  ⟨{ dead with agenda := [.tick] }, _, rfl, by decide, rfl, by decide⟩

/-- A state with one event to come, for the statements whose only hypothesis is the agenda. -/
theorem witness_agenda (e : Event) (rest : List Event) : ∃ s : State, s.agenda = e :: rest :=
  ⟨{ crowded with agenda := e :: rest }, rfl⟩

theorem witness_RegisterWriteReadsBack :
    (0x1C#16, 0x3F#32) ∈ writableMasks ∧ (0x38#16, 0x177#32) ∈ writableMasks ∧ (0x4C#16, 0xFF#32) ∈ writableMasks := by
  decide

theorem witness_ReadOnlyAndReservedRegisters :
    ((0x18#16, 0#26 ++ crowded.irqStatus) ∈ ([(0x10#16, crowded.lastCmd), (0x18#16, 0#26 ++ crowded.irqStatus),
      (0x40#16, crowded.result), (0x44#16, 0#16 ++ crowded.idle)] : List (Half × Word))) ∧
    (0x44#16 ∈ ([0x00#16, 0x04#16, 0x08#16, 0x0C#16, 0x14#16, 0x40#16, 0x44#16] : List Half)) ∧
    (0x50 ≤ (0x50#16).toNat ∧ (0x50#16).toNat ≤ 0xFC ∧ (0x50#16).toNat % 4 = 0) ∧
    (0x50 ≤ (0xFC#16).toNat ∧ (0xFC#16).toNat ≤ 0xFC ∧ (0xFC#16).toNat % 4 = 0) := by decide

theorem witness_SrcWriteThenRead :
    base.latch = .empty ∧ (0x4000 ≤ (0x7FFC#16).toNat ∧ (0x7FFC#16).toNat < 0x8000 ∧ (0x7FFC#16).toNat % 4 = 0) ∧
    (0x4000 ≤ (0x4002#16).toNat ∧ (0x4002#16).toNat % 2 = 0) ∧ ((0x7FFF#16).toNat < 0x8000) := by decide

/-- A read while BUSY = 1 of two bytes, both written, and of two bytes, one written. -/
theorem witness_SrcWriteThenRead_busy :
    ∃ (s : State) (rest : List Event), s.agenda = .access (.read 0x7FFE#16 .b2) :: rest ∧ s.latch ≠ .empty ∧
      srcRead s.src 0x3FFE = some 0x12#8 ∧ srcRead s.src 0x3FFF = some 0x34#8 ∧ srcRead s.src 0x3FFD = none :=
  ⟨{ crowded with src := [(0x3FFE, 0x12#8), (0x3FFF, 0x34#8)], agenda := [.access (.read 0x7FFE#16 .b2)] }, [], rfl,
    by decide, rfl, rfl, rfl⟩

theorem witness_SrcWriteWhileBusyDropped :
    crowded.latch ≠ .empty ∧ 0x4000 ≤ (0x7FFE#16).toNat ∧ (0x7FFE#16).toNat < 0x8000 ∧
      (0x7FFE#16).toNat % Size.b2.bytes = 0 := by decide

theorem witness_FbWindow :
    powered.latch = .empty ∧ crowded.latch ≠ .empty ∧
    (0x8000 ≤ (0xAEDF#16).toNat ∧ (0xAEDF#16).toNat < 0x8000 + 12000) ∧ (0xAEDE#16).toNat % 2 = 0 ∧
    (0xAEDC#16).toNat % 4 = 0 ∧ (0xAEDC#16).toNat % Size.b4.bytes = 0 := by decide

theorem witness_BadAccessesAreSlverr :
    (0x100 ≤ (0x100#16).toNat ∧ (0x3FFF#16).toNat < 0x4000) ∧ 0xAEE0 ≤ (0xAEE0#16).toNat ∧
    (0x4001#16).toNat % Size.b2.bytes ≠ 0 ∧ ((0xFF#16).toNat < 0x100 ∧ Size.b1 ≠ .b4) := by decide

theorem witness_exec_next : ∃ (i : Instr) (s t : State), exec i s = .next t ∧ mayDraw i = false ∧ maySend i = false ∧
    mayPower i = false ∧ Memory.wf Config.fbBytes fbBlank s.fb = true := by
  obtain ⟨t, h⟩ := next_of_after (exec .nop crowded) rfl
  exact ⟨.nop, crowded, t, h, rfl, rfl, rfl, by decide⟩

theorem witness_SnapshotIsolatesCommand :
    ∃ (r : Reg) (v : Word) (a : Snapshot) (s t : State), isArg r = true ∧ s.latch = .host v a ∧
      exec (decode v) s = .next t := by
  obtain ⟨t, h⟩ := next_of_after (exec (decode 0x10#32) crowded) rfl
  exact ⟨.argX, 0x10#32, zeroOps, crowded, t, rfl, rfl, h⟩

theorem witness_StopsByName :
    (base.fatal = false ∧ isCommand .nop = true ∧ base.latch ≠ .autoOff) ∧
    (∀ v a, base.latch ≠ .host v a) ∧ (∀ v a, expiring.latch ≠ .host v a) ∧ base.build.chunkLines < 241 ∧ 240 < 239 + 2 := by
  refine ⟨by decide, fun v a h => ?_, fun v a h => ?_, by decide, by decide⟩
  · exact absurd (show Latch.empty = .host v a from h) (by simp)
  · exact absurd (show Latch.autoOff = .host v a from h) (by simp)

theorem witness_StepAroundInstructions :
    (∃ (s : State) (rest : List Event), s.agenda = .engine :: rest ∧ s.fatal = true) ∧
    (∃ (s : State) (rest : List Event), s.agenda = .engine :: rest ∧ s.latch = .empty) ∧
    (∃ s : State, s.agenda = [] ∧ s.fatal = false ∧ s.latch = .empty) ∧ (∃ s : State, s.agenda = [] ∧ s.fatal = true) :=
  ⟨⟨{ dead with agenda := [.engine] }, _, rfl, rfl⟩, ⟨{ base with agenda := [.engine] }, _, rfl, rfl⟩,
   ⟨powered, rfl, rfl, rfl⟩, ⟨dead, rfl, rfl⟩⟩

theorem witness_StepKeepsInv : ∃ s t : State, Inv s ∧ step s = (.next t : Out) ∧ s.tickPend = true := by
  obtain ⟨t, h⟩ := next_of_after (step crowded) rfl
  exact ⟨crowded, t, inv_crowded, h, rfl⟩

end Sys2Proof.Tests
end

section
/-! PROOFS. What an instruction, a host access and a step can do, each said once as an inversion lemma; the statements
about the whole machine (frames, logs, the invariant) follow from them. -/

namespace Sys2Proof.Machine

open Sys2Proof.Claims

/-! ## What an instruction can answer -/

/-- FB's canonical form (40 R147). -/
abbrev FbCanonical (m : Memory) : Prop := Memory.wf Config.fbBytes fbBlank m = true

/-- What `Perform` of a host command can leave of `s`, before completion (40 R135). -/
inductive Performed (s : State) : Instr → State → Prop
  | same {i : Instr} : Performed s i s
  | drew {i : Instr} {m : Memory} {r : Word} (hi : mayDraw i = true)
      (hr : i = .drawChar ∨ i = .drawString ∨ r = s.result) (hm : FbCanonical s.fb → FbCanonical m) :
      Performed s i { s with fb := m, result := r }
  | sent {i : Instr} {frames : List (List Byte)} (hi : maySend i = true) : Performed s i (s.transmitAll frames)
  | poweredOn : Performed s .powerOn (powerOnSeq s)
  | poweredOff {clr : Bool} : Performed s .powerOff (powerOffSeq clr s)

/-- The next states an instruction can answer from `s`. -/
inductive Answered (s : State) : Instr → State → Prop
  | completed {i : Instr} {v : Word} {a : Snapshot} {e : ErrCode} {u : State} (hf : s.fatal = false)
      (hl : s.latch = .host v a) (hu : Performed s i u) : Answered s i (finishHost e u)
  | expired (hf : s.fatal = false) (hl : s.latch = .autoOff) :
      Answered s .autoOff (finishInternal (powerOffSeq true s))
  | framed {i : Instr} {frame : List Byte} (hi : maySend i = true) : Answered s i (s.transmit frame)
  | keptAlive {v : Word} {r : BusReply} : Answered s (.keepaliveWrite v) ((keepAlive s).reply r)
  | ticked : Answered s .wakeTick (onWakeTick s)

theorem runHost_answered {i : Instr} {s t : State} {perform : Snapshot → State × ErrCode}
    (hp : ∀ a, Performed s i (perform a).1) (h : runHost s perform = .next t) : Answered s i t := by
  obtain ⟨v, a, hf, hl, rfl⟩ := runHost_next h
  exact .completed hf hl (hp a)

theorem runHostSrc_answered {i : Instr} {s t : State} {perform : Snapshot → Option (State × ErrCode)}
    (hp : ∀ a r, perform a = some r → Performed s i r.1) (h : runHostSrc s perform = .next t) : Answered s i t := by
  obtain ⟨v, a, r, hf, hl, hr, rfl⟩ := runHostSrc_next h
  exact .completed hf hl (hp a r hr)

theorem drawGlyph_wf (f : Font) (c : Nat) (x y : Int) (set : Bool) {m : Memory} (hm : FbCanonical m) :
    FbCanonical (drawGlyph f c x y set m) := by
  unfold drawGlyph
  exact blitImage_wf _ _ _ _ _ _ _ hm

theorem drawImage_performed {s : State} {a : Snapshot} {r : State × ErrCode} (h : drawImage s a = some r) :
    Performed s .drawImage r.1 := by
  unfold drawImage at h
  split at h
  · cases h; exact .same
  · split at h
    · cases h; exact .same
    · split at h
      · cases h; exact .same
      · split at h
        · cases h; exact .drew rfl (.inr (.inr rfl)) (blitImage_wf _ _ _ _ _ _ _)
        · cases h

theorem drawString_performed {s : State} {a : Snapshot} {r : State × ErrCode} (h : drawString s a = some r) :
    Performed s .drawString r.1 := by
  unfold drawString at h
  split at h
  · cases h; exact .same
  · split at h
    · cases h; exact .drew rfl (.inr (.inl rfl)) id
    · split at h
      · cases h; exact .drew rfl (.inr (.inl rfl)) id
      · split at h
        · cases h
        · next he => cases h; exact .drew rfl (.inr (.inl rfl)) fun hm => stringLoop_wf hm he

/-- Everything an instruction that answers a next state can have done. -/
theorem exec_next {i : Instr} {s t : State} (h : exec i s = .next t) : Answered s i t := by
  cases i with
  | nop => exact runHost_answered (fun _ => .same) h
  | clear => exact runHost_answered (fun _ => .drew rfl (.inr (.inr rfl)) fun _ => Memory.nil_wf _ _) h
  | fill =>
    refine runHost_answered (fun a => ?_) h
    split
    · exact .drew rfl (.inr (.inr rfl)) fun _ => fbTabulate_wf _
    · exact .same
  | invert =>
    refine runHost_answered (fun a => ?_) h
    exact .drew rfl (.inr (.inr rfl)) fun _ => fbTabulate_wf _
  | testPattern =>
    refine runHost_answered (fun a => ?_) h
    exact .drew rfl (.inr (.inr rfl)) fun _ => fbTabulate_wf _
  | drawImage => exact runHostSrc_answered (fun _ _ => drawImage_performed) h
  | fillRect =>
    refine runHost_answered (fun a => ?_) h
    split
    · exact .same
    · exact .drew rfl (.inr (.inr rfl)) (applyRect_wf _ _ _ _ _)
  | bitblt24 =>
    refine runHost_answered (fun a => ?_) h
    split
    · exact .same
    · split
      · exact .same
      · exact .drew rfl (.inr (.inr rfl)) (applyRun_wf _ _)
  | drawChar =>
    refine runHost_answered (fun a => ?_) h
    split
    · exact .same
    · split
      · exact .drew rfl (.inl rfl) id
      · split
        · exact .drew rfl (.inl rfl) id
        · exact .drew rfl (.inl rfl) (drawGlyph_wf _ _ _ _ _)
  | drawString => exact runHostSrc_answered (fun _ _ => drawString_performed) h
  | refresh => exact runHost_answered (fun _ => .sent rfl) h
  | writeLine =>
    refine runHost_answered (fun a => ?_) h
    split
    · exact .same
    · exact .sent rfl
  | powerOn => exact runHost_answered (fun _ => .poweredOn) h
  | powerOff =>
    refine runHost_answered (fun a => ?_) h
    dsimp only
    split
    · exact .poweredOff
    · exact .same
  | illegal w => exact runHost_answered (fun _ => .same) h
  | autoOff =>
    simp only [exec, execAutoOff] at h
    split at h
    · cases h
    · next hf =>
      split at h
      · next hl => cases h; exact .expired (by simpa using hf) (State.internal_iff.mp hl)
      · cases h
  | wirePriming => cases h; exact .framed rfl
  | wireChunk r n =>
    simp only [exec, execWireChunk] at h
    split at h
    · cases h; exact .framed rfl
    · cases h
  | wireLine r =>
    simp only [exec, execWireLine] at h
    split at h
    · cases h; exact .framed rfl
    · cases h
  | wireClear => cases h; exact .framed rfl
  | keepaliveWrite v => cases h; exact .keptAlive
  | wakeTick => cases h; exact .ticked

/-! ## Frames of the instructions -/

/-- An address past FB is listed in no canonical FB (40 R147). -/
theorem fbRead_outside {m : Memory} {a : Nat} (h : FbCanonical m) (ha : 12000 ≤ a) : fbRead m a = 0x00#8 := by
  have hfind : Memory.find a m = none := by
    have hbound := ((Memory.wf_iff _ _ _).mp h).2
    clear h
    induction m with
    | nil => rfl
    | cons c m ih =>
      have hc : c.1 < 12000 := (hbound c (by simp)).1
      rw [Memory.find, if_neg (by omega)]
      exact ih fun d hd => hbound d (List.mem_cons_of_mem _ hd)
  simp [fbRead, hfind]

/-- Settles O53: no case of `Answered` touches the host's registers. -/
theorem instructionsKeepHostRegisters : Obligations.InstructionsKeepHostRegisters := by
  intro i s t h
  cases exec_next h with
  | completed _ _ hu => cases hu <;> simp
  | expired => simp
  | framed => simp
  | keptAlive => simp
  | ticked => simp

/-- Settles O54, by the instructions each case of `Answered` names. -/
theorem onlyOwnersWrite : Obligations.OnlyOwnersWrite := by
  intro i s t h
  cases exec_next h with
  | completed _ _ hu =>
    cases hu with
    | same => simp
    | drew hi hr =>
      refine ⟨by simp [hi], fun hc hs => ?_, by simp, by simp⟩
      simpa [hc, hs] using hr
    | sent hi => simp [hi]
    | poweredOn => simp [mayPower]
    | poweredOff => simp [mayPower, maySend]
  | expired => simp [mayPower, maySend]
  | framed hi => simp [hi]
  | keptAlive => simp
  | ticked => simp

theorem exec_fbCanonical {i : Instr} {s t : State} (hs : FbCanonical s.fb) (h : exec i s = .next t) :
    FbCanonical t.fb := by
  cases exec_next h with
  | completed _ _ hu =>
    cases hu with
    | drew _ _ hm => simpa using hm hs
    | same => simpa using hs
    | sent => simpa using hs
    | poweredOn => simpa using hs
    | poweredOff => simpa using hs
  | expired => simpa using hs
  | framed => simpa using hs
  | keptAlive => simpa using hs
  | ticked => simpa using hs

/-- Settles O55: a canonical FB reads 0x00 past its end, before and after. -/
theorem commandsStayInsideFb : Obligations.CommandsStayInsideFb := by
  intro i s t hs h
  have ht := exec_fbCanonical hs h
  exact ⟨ht, fun n hn => (fbRead_outside ht hn).trans (fbRead_outside hs hn).symm⟩

end Sys2Proof.Machine
end

section
/-! PROOFS. What a host access can do, the engine's and the controller's effect on the fields of the invariant, and the
statements about every step. -/

namespace Sys2Proof.Machine

open Sys2Proof.Claims

/-! ## Host accesses -/

/-- A host read gives a reply and may draw free bytes (20 R68). -/
theorem hostRead_eq (off : Nat) (size : Size) (s : State) :
    ∃ r d, hostRead off size s = { s.reply r with draws := d } := by
  unfold hostRead
  split
  · split <;> exact ⟨_, s.draws, rfl⟩
  · split
    · exact ⟨_, _, rfl⟩
    · exact ⟨_, s.draws, rfl⟩
  · split
    · unfold readFb
      split
      · exact ⟨_, _, rfl⟩
      · exact ⟨_, s.draws, rfl⟩
    · exact ⟨_, s.draws, rfl⟩
  · exact ⟨_, s.draws, rfl⟩

/-- The offset in SRC of an access in the SRC window (20 R60). -/
theorem regionOf_src {off a : Nat} (h : regionOf off = .src a) : a < Config.srcSize := by
  unfold regionOf at h
  split at h
  · cases h
  · split at h
    · cases h
    · split at h
      · injection h with h
        have hsize : Config.srcSize = 16384 := rfl
        omega
      · split at h <;> cases h

/-- An aligned access of an access size that begins in SRC ends in SRC. -/
theorem aligned_in_src {a i : Nat} {size : Size} (ha : a < Config.srcSize) (hal : a % size.bytes = 0)
    (hi : i < size.bytes) : a + i < Config.srcSize := by
  have ha : a < 16384 := ha
  show a + i < 16384
  cases size <;> simp only [Size.bytes] at hal hi <;> omega

/-- The bytes of an aligned SRC write keep SRC's canonical form (10 R22). -/
theorem srcWriteBytes_wf {a : Nat} {size : Size} {v : Word} {m : Memory} (ha : a < Config.srcSize)
    (hal : a % size.bytes = 0) (hm : Memory.wf Config.srcSize srcBlank m = true) :
    Memory.wf Config.srcSize srcBlank (srcWriteBytes a size.bytes v m) = true :=
  List.foldlRecOn (motive := fun m => Memory.wf Config.srcSize srcBlank m = true) _ _ hm
    fun _ hm _ hi => srcWrite_wf hm (aligned_in_src ha hal (List.mem_range.mp hi))

/-- Everything a host write can do besides its reply (20 R60 to R64, R78). -/
inductive Wrote (s : State) : State → Prop
  | nothing : Wrote s s
  | register (r : Reg) (v : Word) : Wrote s (writeReg r v s)
  | dropped : Wrote s (s.raise irqOvr)
  | source {m : Memory}
      (hm : Memory.wf Config.srcSize srcBlank s.src = true → Memory.wf Config.srcSize srcBlank m = true) :
      Wrote s { s with src := m }

theorem hostWrite_cases (off : Nat) (size : Size) (v : Word) (s : State) :
    ∃ u r, Wrote s u ∧ hostWrite off size v s = u.reply r := by
  unfold hostWrite
  split
  · split
    · exact ⟨_, _, .register _ _, rfl⟩
    · exact ⟨_, _, .nothing, rfl⟩
  · next a hreg =>
    split
    · next hal =>
      unfold writeSrc
      split
      · exact ⟨_, _, .dropped, rfl⟩
      · exact ⟨_, _, .source (srcWriteBytes_wf (regionOf_src hreg) hal), rfl⟩
    · exact ⟨_, _, .nothing, rfl⟩
  · exact ⟨_, _, .nothing, rfl⟩
  · exact ⟨_, _, .nothing, rfl⟩

/-- The logs of the transport and of the pins. -/
def State.logs (s : State) : List (List Byte) × List (Pin × Bool) := (s.txLog, s.pinLog)

theorem writeCmd_logs (v : Word) (s : State) : (writeCmd v s).logs = s.logs := by
  unfold writeCmd
  split
  · rfl
  · split <;> rfl

theorem writeReg_logs (r : Reg) (v : Word) (s : State) : (writeReg r v s).logs = s.logs := by
  cases r with
  | cmd => exact writeCmd_logs v s
  | keepalive => simp [writeReg, State.logs]
  | _ => rfl

theorem hostAccess_logs (a : Access) (s : State) : (hostAccess a s).logs = s.logs := by
  cases a with
  | read off size =>
    obtain ⟨r, d, h⟩ := hostRead_eq off.toNat size s
    rw [hostAccess, h]
    rfl
  | write off size v =>
    obtain ⟨u, r, hu, h⟩ := hostWrite_cases off.toNat size v s
    rw [hostAccess, h]
    cases hu with
    | register r v => exact writeReg_logs r v s
    | nothing => rfl
    | dropped => rfl
    | source => rfl

/-! ## One step -/

/-- A reflexive and transitive relation that the agenda, the failure indication, host accesses, reset and the instructions
respect holds between the two ends of every step. -/
theorem step_rel (R : State → State → Prop) (hrefl : ∀ s, R s s) (htrans : ∀ {s t u}, R s t → R t u → R s u)
    (hagenda : ∀ (s : State) es, R s { s with agenda := es }) (hperiph : ∀ (s : State) f, R s { s with periph := f })
    (haccess : ∀ a s, R s (hostAccess a s)) (hreset : ∀ s, R s (resetStep s))
    (hexec : ∀ {i s t}, exec i s = .next t → R s t) {s t : State} (h : step s = (.next t : Out)) : R s t := by
  have hengine : ∀ {s t : State}, engineStep s = .next t → R s t := by
    intro s t h
    unfold engineStep at h
    split at h
    · cases h; exact hrefl _
    · split at h
      · cases h; exact hrefl _
      · exact hexec h
      · exact hexec h
  have hpoll : ∀ s, R s (pollStep s) := by
    intro s
    unfold pollStep
    dsimp only
    split
    · exact htrans (haccess (.read 0x14#16 .b4) s) (hagenda _ _)
    · exact haccess (.read 0x14#16 .b4) s
  unfold step advance at h
  split at h
  · next e rest _ =>
    refine htrans (hagenda s rest) ?_
    cases e with
    | access a => cases h; exact haccess _ _
    | tick => exact hexec (i := .wakeTick) h
    | engine => exact hengine h
    | poll => cases h; exact hpoll _
    | reset => cases h; exact hreset _
    | periph f => cases h; exact hperiph _ _
  · split at h
    · cases h
    · exact hengine h

/-! ## The logs only grow -/

/-- Both logs of `s` are the beginnings of those of `t` (10 R41, R47). -/
def LogsGrow (s t : State) : Prop := s.txLog <+: t.txLog ∧ s.pinLog <+: t.pinLog

theorem LogsGrow.refl (s : State) : LogsGrow s s := ⟨List.prefix_rfl, List.prefix_rfl⟩

theorem LogsGrow.trans {s t u : State} (h : LogsGrow s t) (k : LogsGrow t u) : LogsGrow s u :=
  ⟨h.1.trans k.1, h.2.trans k.2⟩

theorem LogsGrow.of_logs {s t : State} (h : t.logs = s.logs) : LogsGrow s t := by
  obtain ⟨ht, hp⟩ := Prod.mk.inj h
  exact ⟨ht ▸ List.prefix_rfl, hp ▸ List.prefix_rfl⟩

theorem setPin_logsGrow (p : Pin) (v : Bool) (s : State) : LogsGrow s (s.setPin p v) :=
  ⟨List.prefix_rfl, List.prefix_append _ _⟩

theorem transmitAll_logsGrow (frames : List (List Byte)) (s : State) : LogsGrow s (s.transmitAll frames) :=
  ⟨List.prefix_append _ _, List.prefix_rfl⟩

theorem powerStage_logsGrow {k : Nat} {act rest : State → State} (ha : ∀ s, LogsGrow s (act s))
    (hr : ∀ s, LogsGrow s (rest s)) (s : State) : LogsGrow s (powerStage k act rest s) := by
  unfold powerStage
  split
  · exact .of_logs rfl
  · exact (ha s).trans (hr _)

theorem powerOnSeq_logsGrow (s : State) : LogsGrow s (powerOnSeq s) := by
  have hend : ∀ s : State, LogsGrow s { s with isOn := true, idle := 0#16 } := fun _ => .of_logs rfl
  exact powerStage_logsGrow (setPin_logsGrow _ _) (powerStage_logsGrow (setPin_logsGrow _ _)
    (powerStage_logsGrow (setPin_logsGrow _ _) (powerStage_logsGrow (setPin_logsGrow _ _) hend))) s

theorem powerOffSeq_logsGrow (clr : Bool) (s : State) : LogsGrow s (powerOffSeq clr s) := by
  have hclr : ∀ s : State, LogsGrow s (if clr then s.transmit clearFrame else s) := by
    intro s
    split
    · exact transmitAll_logsGrow [clearFrame] s
    · exact .refl s
  have hend : ∀ s : State, LogsGrow s { s with isOn := false, tickPend := false } := fun _ => .of_logs rfl
  exact powerStage_logsGrow hclr (powerStage_logsGrow (setPin_logsGrow _ _) (powerStage_logsGrow (setPin_logsGrow _ _)
    (powerStage_logsGrow (setPin_logsGrow _ _) (powerStage_logsGrow (setPin_logsGrow _ _) hend)))) s

theorem performed_logsGrow {s u : State} {i : Instr} (h : Performed s i u) : LogsGrow s u := by
  cases h with
  | same => exact .refl s
  | drew => exact .of_logs rfl
  | sent => exact transmitAll_logsGrow _ s
  | poweredOn => exact powerOnSeq_logsGrow s
  | poweredOff => exact powerOffSeq_logsGrow _ s

theorem exec_logsGrow {i : Instr} {s t : State} (h : exec i s = .next t) : LogsGrow s t := by
  cases exec_next h with
  | completed _ _ hu => exact (performed_logsGrow hu).trans (.of_logs (by simp [State.logs]))
  | expired => exact (powerOffSeq_logsGrow true s).trans (.of_logs (by simp [State.logs]))
  | framed => exact transmitAll_logsGrow _ s
  | keptAlive => exact .of_logs (by simp [State.logs])
  | ticked => exact .of_logs (by simp [State.logs])

/-- A reset keeps TXLOG and appends the falling pins to PINLOG (70 R383). -/
theorem resetStep_logsGrow (s : State) : LogsGrow s (resetStep s) :=
  ⟨List.prefix_rfl, List.prefix_append _ _⟩

/-- Settles O56: growing is a relation every kind of event respects. -/
theorem logsOnlyGrow : Obligations.LogsOnlyGrow := by
  intro s t h
  obtain ⟨⟨f, hf⟩, ⟨p, hp⟩⟩ := step_rel LogsGrow LogsGrow.refl LogsGrow.trans (fun _ _ => .of_logs rfl)
    (fun _ _ => .of_logs rfl) (fun a s => .of_logs (hostAccess_logs a s)) resetStep_logsGrow exec_logsGrow h
  exact ⟨⟨f, hf.symm⟩, ⟨p, hp.symm⟩⟩

/-! ## The invariant: the host's accesses and reset -/

theorem Inv.accept {s : State} (h : Inv s) (hl : s.latch = .empty) (v : Word) : Inv (s.accept v) :=
  { h with
    idleFull := fun hi => .inr ((h.idleFull hi).resolve_left (by simp [hl]))
    tickHeld := fun ht => absurd hl (h.tickHeld ht).1
    autoOffOn := by simp
    fatalBusy := by simp }

theorem Inv.keepAlive {s : State} (h : Inv s) : Inv (keepAlive s) := by
  unfold Machine.keepAlive
  split
  · exact h
  · exact { h with idleBound := by simp, idleFull := by simp }

theorem Inv.writeCmd {s : State} (h : Inv s) (v : Word) : Inv (writeCmd v s) := by
  unfold Machine.writeCmd
  split
  · exact h
  · split
    · exact { h with }
    · next hb => exact h.accept (State.busy_eq_false.mp (by simpa using hb)) v

theorem Inv.writeReg {s : State} (h : Inv s) (r : Reg) (v : Word) : Inv (writeReg r v s) := by
  cases r with
  | cmd => exact h.writeCmd v
  | argMode => exact { h with modeReserved := by simp [Machine.writeReg, BitVec.and_assoc] }
  | keepalive => exact h.keepAlive
  | _ => exact { h with }

theorem Inv.hostAccess {s : State} (h : Inv s) (a : Access) : Inv (hostAccess a s) := by
  cases a with
  | read off size =>
    obtain ⟨r, d, hr⟩ := hostRead_eq off.toNat size s
    rw [Machine.hostAccess, hr]
    exact { h with }
  | write off size v =>
    obtain ⟨u, r, hu, hw⟩ := hostWrite_cases off.toNat size v s
    rw [Machine.hostAccess, hw]
    have : Inv u := by
      cases hu with
      | nothing => exact h
      | register r v => exact h.writeReg r v
      | dropped => exact { h with }
      | source hm => exact { h with srcWf := hm h.srcWf }
    exact { this with }

theorem inv_reset : Inv State.reset where
  fbWf := reset_fb_wf
  srcWf := reset_src_wf
  modeReserved := by decide
  idleBound := by decide
  idleFull := fun _ => .inr rfl
  tickHeld := by decide
  autoOffOn := by decide
  fatalBusy := by decide
  pinsFollow := fun _ => rfl

theorem inv_resetStep (s : State) : Inv (resetStep s) := { inv_reset with }

/-! ## The invariant: ticks and completion -/

@[simp] theorem processTick_idle (s : State) : (processTick s).idle = s.idle + 1#16 := by
  unfold processTick; dsimp only; split <;> split <;> rfl

@[simp] theorem processTick_latch (s : State) :
    (processTick s).latch = if Config.offTimeout ≤ (s.idle + 1#16).toNat then .autoOff else s.latch := by
  unfold processTick; dsimp only; split <;> split <;> simp_all

@[simp] theorem completeHost_latch (e : ErrCode) (s : State) : (completeHost e s).latch = .empty := by
  unfold completeHost; dsimp only; split <;> rfl

@[simp] theorem completeInternal_latch (s : State) : (completeInternal s).latch = .empty := rfl

/-- IDLE < 300 while the display is on and AUTO_OFF is not latched (46 R315). -/
theorem Inv.idle_lt {s : State} (h : Inv s) (hl : s.latch ≠ .autoOff) (hon : s.isOn = true) : s.idle.toNat < 300 := by
  have hne : s.idle.toNat ≠ 300 := fun hi => by simpa [hl, hon] using h.idleFull hi
  have hle : s.idle.toNat ≤ 300 := h.idleBound
  omega

/-- A tick processed while ON and idle keeps the invariant (46 R309, R315). -/
theorem Inv.processTick {s : State} (h : Inv s) (hl : s.latch = .empty) (hon : s.isOn = true) :
    Inv (processTick s) := by
  have hlt := h.idle_lt (by simp [hl]) hon
  have hidle : (s.idle + 1#16).toNat = s.idle.toNat + 1 := by
    rw [BitVec.toNat_add_of_lt (by simp; omega)]; rfl
  have hfatal : s.fatal = false := by
    cases hf : s.fatal with
    | false => rfl
    | true => exact absurd hl (h.fatalBusy hf)
  have htick : s.tickPend = false := by
    cases ht : s.tickPend with
    | false => rfl
    | true => exact absurd hl (h.tickHeld ht).1
  exact
    { fbWf := by simpa using h.fbWf
      srcWf := by simpa using h.srcWf
      modeReserved := by simpa using h.modeReserved
      idleBound := by simpa [hidle] using hlt
      idleFull := fun hi => .inl (by simp_all)
      tickHeld := by simp [htick]
      autoOffOn := by simp [hon]
      fatalBusy := by simp [hfatal]
      pinsFollow := by simpa using h.pinsFollow }

/-- The held tick is served from a state that meets the invariant without it (46 R318). -/
theorem inv_servicePendingTick {s : State} (h : Inv { s with tickPend := false }) : Inv (servicePendingTick s) := by
  unfold servicePendingTick
  split
  · dsimp only
    split
    · next hc =>
      obtain ⟨hon, hb⟩ := Bool.and_eq_true_iff.mp hc
      exact h.processTick (State.busy_eq_false.mp (by simpa using hb)) hon
    · exact h
  · next ht => exact { h with tickHeld := fun hp => absurd hp ht }

/-- Completing a host command keeps the invariant, the held tick aside (40 R136). -/
theorem Inv.completeHost {s : State} (h : Inv s) (hf : s.fatal = false) (hl : s.latch ≠ .autoOff) (e : ErrCode) :
    Inv { completeHost e s with tickPend := false } where
  fbWf := by simpa using h.fbWf
  srcWf := by simpa using h.srcWf
  modeReserved := by simpa using h.modeReserved
  idleBound := by simpa using h.idleBound
  idleFull := by simpa [hl] using h.idleFull
  tickHeld := by simp
  autoOffOn := by simp
  fatalBusy := by simp [hf]
  pinsFollow := by simpa using h.pinsFollow

theorem Inv.finishHost {s : State} (h : Inv s) (hl : s.latch ≠ .autoOff) (e : ErrCode) : Inv (finishHost e s) := by
  unfold Machine.finishHost
  split
  · exact h
  · next hf => exact inv_servicePendingTick (h.completeHost (by simpa using hf) hl e)

theorem Inv.onWakeTick {s : State} (h : Inv s) : Inv (onWakeTick s) := by
  unfold Machine.onWakeTick
  split
  · exact h
  · split
    · exact h
    · next hon =>
      have hon : s.isOn = true := by simpa using hon
      split
      · next hb =>
        split
        · exact { h with }
        · exact { h with tickHeld := fun _ => ⟨by simpa [State.busy] using hb, hon⟩ }
      · next hb => exact h.processTick (State.busy_eq_false.mp (by simpa using hb)) hon

/-! ## The invariant: the power sequences -/

/-- The two ends of PowerOnSeq (46 R302): halted with ON and IDLE as before, or ON with every pin asserted. -/
theorem powerOnSeq_cases (s : State) :
    ((powerOnSeq s).fatal = true ∧ (powerOnSeq s).isOn = s.isOn ∧ (powerOnSeq s).idle = s.idle) ∨
    ((powerOnSeq s).fatal = s.fatal ∧ (powerOnSeq s).isOn = true ∧ (powerOnSeq s).idle = 0#16 ∧
      (powerOnSeq s).pins = PinLevels.all true) := by
  rcases hp : s.periph with _ | k
  · exact .inr (by simp [powerOnSeq, powerStage, hp, PinLevels.all])
  · fin_cases k <;> simp [powerOnSeq, powerStage, hp, PinLevels.all]

/-- The two ends of PowerOffSeq (46 R304): halted with ON and TICK_PEND as before, or OFF with every pin at 0. -/
theorem powerOffSeq_cases (clr : Bool) (s : State) :
    ((powerOffSeq clr s).fatal = true ∧ (powerOffSeq clr s).isOn = s.isOn ∧
      (powerOffSeq clr s).tickPend = s.tickPend) ∨
    ((powerOffSeq clr s).fatal = s.fatal ∧ (powerOffSeq clr s).isOn = false ∧
      (powerOffSeq clr s).tickPend = false ∧ (powerOffSeq clr s).pins = PinLevels.all false) := by
  rcases hp : s.periph with _ | k
  · cases clr <;> exact .inr (by simp [powerOffSeq, powerStage, hp, PinLevels.all])
  · cases clr <;> fin_cases k <;> simp [powerOffSeq, powerStage, hp, PinLevels.all]

theorem Inv.powerOnSeq {s : State} (h : Inv s) (hl : s.latch ≠ .empty) : Inv (powerOnSeq s) where
  fbWf := by simpa using h.fbWf
  srcWf := by simpa using h.srcWf
  modeReserved := by simpa using h.modeReserved
  idleBound := by
    rcases powerOnSeq_cases s with ⟨-, -, hi⟩ | ⟨-, -, hi, -⟩
    · simpa [hi] using h.idleBound
    · simp [hi]
  idleFull := by
    rcases powerOnSeq_cases s with ⟨-, ho, hi⟩ | ⟨-, -, hi, -⟩
    · simpa [ho, hi] using h.idleFull
    · simp [hi]
  tickHeld := by
    rcases powerOnSeq_cases s with ⟨-, ho, -⟩ | ⟨-, ho, -⟩
    · simpa [ho] using h.tickHeld
    · simp [ho, hl]
  autoOffOn := by
    rcases powerOnSeq_cases s with ⟨-, ho, -⟩ | ⟨-, ho, -⟩
    · simpa [ho] using h.autoOffOn
    · simp [ho]
  fatalBusy := by simp [hl]
  pinsFollow := by
    rcases powerOnSeq_cases s with ⟨hf, -⟩ | ⟨-, ho, -, hp⟩
    · simp [hf]
    · simp [ho, hp]

/-- PowerOffSeq that halts keeps the invariant, whatever is latched (46 R316). -/
theorem Inv.powerOffSeq_halted {s : State} {clr : Bool} (h : Inv s) (hl : s.latch ≠ .empty)
    (hf : (powerOffSeq clr s).fatal = true) (ho : (powerOffSeq clr s).isOn = s.isOn)
    (ht : (powerOffSeq clr s).tickPend = s.tickPend) : Inv (powerOffSeq clr s) where
  fbWf := by simpa using h.fbWf
  srcWf := by simpa using h.srcWf
  modeReserved := by simpa using h.modeReserved
  idleBound := by simpa using h.idleBound
  idleFull := by simpa [ho] using h.idleFull
  tickHeld := by simpa [ho, ht] using h.tickHeld
  autoOffOn := by simpa [ho] using h.autoOffOn
  fatalBusy := by simp [hl]
  pinsFollow := by simp [hf]

/-- The display off, nothing held, AUTO_OFF not latched: what is left of the invariant is about other fields. -/
theorem Inv.off {s t : State} (h : Inv s) (hfb : t.fb = s.fb) (hsrc : t.src = s.src) (hmode : t.argMode = s.argMode)
    (hidle : t.idle = s.idle) (hl : t.latch ≠ .autoOff) (hon : t.isOn = false) (htick : t.tickPend = false)
    (hfatal : t.fatal = false) (hpins : t.pins = PinLevels.all false) : Inv t where
  fbWf := hfb ▸ h.fbWf
  srcWf := hsrc ▸ h.srcWf
  modeReserved := hmode ▸ h.modeReserved
  idleBound := hidle ▸ h.idleBound
  idleFull := fun _ => .inr hon
  tickHeld := by simp [htick]
  autoOffOn := fun ha => absurd ha hl
  fatalBusy := by simp [hfatal]
  pinsFollow := fun _ => hon ▸ hpins

theorem Inv.powerOffSeq {s : State} (h : Inv s) (hf : s.fatal = false) (hl : s.latch ≠ .empty)
    (ha : s.latch ≠ .autoOff) (clr : Bool) : Inv (powerOffSeq clr s) := by
  rcases powerOffSeq_cases clr s with ⟨hf, ho, ht⟩ | ⟨hf', ho, ht, hp⟩
  · exact h.powerOffSeq_halted hl hf ho ht
  · exact h.off (by simp) (by simp) (by simp) (by simp) (by simpa using ha) ho ht (hf'.trans hf) hp

/-- AUTO_OFF halts, or ends OFF with the latch empty (46 R310). -/
theorem Inv.expired {s : State} (h : Inv s) (hf : s.fatal = false) (hl : s.latch = .autoOff) :
    Inv (finishInternal (Machine.powerOffSeq true s)) := by
  unfold finishInternal
  rcases powerOffSeq_cases true s with ⟨hf, ho, ht⟩ | ⟨hf', ho, ht, hp⟩
  · rw [if_pos hf]
    exact h.powerOffSeq_halted (by simp [hl]) hf ho ht
  · rw [hf', hf, if_neg (by simp)]
    have hdone : Inv (completeInternal (Machine.powerOffSeq true s)) :=
      h.off (by simp) (by simp) (by simp) (by simp) (by simp) (by simp [ho]) (by simp [ht]) (by simp [hf', hf])
        (by simp [hp])
    exact inv_servicePendingTick { hdone with tickHeld := by simp }

/-- What a host command has done before completion keeps the invariant. -/
theorem Inv.performed {s u : State} {i : Instr} {v : Word} {a : Snapshot} (h : Inv s) (hf : s.fatal = false)
    (hl : s.latch = .host v a) (hu : Performed s i u) : Inv u := by
  cases hu with
  | same => exact h
  | drew _ _ hm => exact { h with fbWf := hm h.fbWf }
  | sent => exact { h with }
  | poweredOn => exact h.powerOnSeq (by simp [hl])
  | poweredOff => exact h.powerOffSeq hf (by simp [hl]) (by simp [hl]) _

theorem performed_latch {s u : State} {i : Instr} (hu : Performed s i u) : u.latch = s.latch := by
  cases hu with
  | poweredOn => simp
  | poweredOff => simp
  | _ => rfl

/-- Every instruction keeps the invariant. -/
theorem Inv.exec {i : Instr} {s t : State} (h : exec i s = .next t) (hs : Inv s) : Inv t := by
  cases exec_next h with
  | completed hf hl hu => exact (hs.performed hf hl hu).finishHost (by simp [performed_latch hu, hl]) _
  | expired hf hl => exact hs.expired hf hl
  | framed => exact { hs with }
  | keptAlive => exact { hs.keepAlive with }
  | ticked => exact hs.onWakeTick

/-- Settles O60: each kind of event keeps the invariant. -/
theorem stepKeepsInv : Obligations.StepKeepsInv := by
  intro s t hs h
  exact step_rel (fun s t => Inv s → Inv t) (fun _ => id) (fun h k hs => k (h hs)) (fun _ _ hs => { hs with })
    (fun _ _ hs => { hs with }) (fun a _ hs => hs.hostAccess a) (fun s _ => inv_resetStep s) Inv.exec h hs

end Sys2Proof.Machine
end

section
/-! PROOFS. The register file seen from the bus (spec 10 R24 to R45): a 4-byte access at a register offset is one read or
one write of the register map, and each register's bits follow. -/

namespace Sys2Proof.Machine

open Sys2Proof.Claims

/-! ## A register access is one step -/

theorem step_access {s : State} {rest : List Event} {a : Access} (h : s.agenda = .access a :: rest) :
    step s = .next (hostAccess a { s with agenda := rest }) := by
  simp [step, advance, takeEvent, h]

theorem regionOf_reg {off : Nat} (h : off < 0x100) : regionOf off = .reg off := if_pos h

/-- A register's value depends on no agenda and no reply. -/
theorem readReg_replied (r : Reg) (s : State) (rest : List Event) (b : BusReply) :
    readReg r (replied s rest b) = readReg r s := by
  cases r <;> rfl

/-- A 4-byte read of a register replies its value and changes nothing (20 R61, R68). -/
theorem step_readReg {s : State} {rest : List Event} {off : Half}
    (h : s.agenda = .access (.read off .b4) :: rest) (hlo : off.toNat < 0x100) (hal : off.toNat % 4 = 0) :
    step s = .next (replied s rest ⟨false, some (readReg (regAt off.toNat) s)⟩) := by
  have hread : readReg (regAt off.toNat) { s with agenda := rest } = readReg (regAt off.toNat) s := by
    cases regAt off.toNat <;> rfl
  rw [step_access h, hostAccess, hostRead, regionOf_reg hlo]
  simp only [hal, and_self, if_true, hread]
  rfl

/-- A 4-byte write of a register does what the register map says and replies OKAY (20 R61). -/
theorem step_writeReg {s : State} {rest : List Event} {off : Half} {v : Word}
    (h : s.agenda = .access (.write off .b4 v) :: rest) (hlo : off.toNat < 0x100) (hal : off.toNat % 4 = 0) :
    step s = .next ((writeReg (regAt off.toNat) v { s with agenda := rest }).reply okayWrite) := by
  rw [step_access h, hostAccess, hostWrite, regionOf_reg hlo]
  simp only [hal, and_self, if_true]

theorem runs_two {s t u : State} (h : step s = .next t) (k : step t = .next u) : runs 2 s = .next u := by
  have h : core.step s = .next t := h
  have k : core.step t = .next u := k
  simp only [runs, Host.Core.run, h, k]
  rfl

/-! ## The writable registers -/

theorem writableMasks_offset {off : Half} {mask : Word} (h : (off, mask) ∈ writableMasks) :
    off.toNat < 0x100 ∧ off.toNat % 4 = 0 := by
  have hall : (writableMasks.all fun p => p.1.toNat < 0x100 && p.1.toNat % 4 == 0) = true := by rfl
  simpa using List.all_eq_true.mp hall _ h

/-- A register as wide as the low `n` bits of a word reads back as the word under the mask of those bits (10 R24). -/
theorem setWidth_extractLsb'_eq_and {n : Nat} {mask : Word} (v : Word) (hn : n ≤ 32) (hm : mask.toNat = 2 ^ n - 1) :
    (v.extractLsb' 0 n).setWidth 32 = v &&& mask := by
  apply BitVec.eq_of_toNat_eq
  have hlt : v.toNat % 2 ^ n < 2 ^ 32 :=
    (Nat.mod_lt _ (Nat.two_pow_pos n)).trans_le (Nat.pow_le_pow_right (by decide) hn)
  rw [BitVec.toNat_and, hm, Nat.and_two_pow_sub_one_eq_mod]
  simpa using Nat.mod_eq_of_lt hlt

/-- The register map and `stored` say the same of a writable register: the write stores its writable bits, changes nothing
else, and they read back (10 R32 to R38, R45). -/
theorem writable_register {off : Half} {mask : Word} (h : (off, mask) ∈ writableMasks) (v : Word) (s : State)
    (rest : List Event) (r : BusReply) :
    (writeReg (regAt off.toNat) v { s with agenda := rest }).reply r = replied (stored off v s) rest r ∧
      readReg (regAt off.toNat) (stored off v s) = v &&& mask ∧ (stored off v s).busLog = s.busLog := by
  simp only [writableMasks, List.mem_cons, Prod.mk.injEq, List.not_mem_nil, or_false] at h
  rcases h with ⟨rfl, rfl⟩ | ⟨rfl, rfl⟩ | ⟨rfl, rfl⟩ | ⟨rfl, rfl⟩ | ⟨rfl, rfl⟩ | ⟨rfl, rfl⟩ | ⟨rfl, rfl⟩ | ⟨rfl, rfl⟩ |
    ⟨rfl, rfl⟩ | ⟨rfl, rfl⟩
  case inr.inr.inr.inr.inr.inr.inl => exact ⟨rfl, BitVec.and_allOnes.symm, rfl⟩
  case inr.inr.inr.inr.inr.inr.inr.inl => exact ⟨rfl, BitVec.and_assoc .., rfl⟩
  all_goals exact ⟨rfl, setWidth_extractLsb'_eq_and v (by decide) rfl, rfl⟩

/-- Settles O44: the step of the write is `writable_register`, and the read after it gives the bits stored. -/
theorem registerWriteReadsBack : Obligations.RegisterWriteReadsBack := by
  have hwrite : ∀ (s : State) (rest : List Event) (off : Half) (mask v : Word), (off, mask) ∈ writableMasks →
      s.agenda = .access (.write off .b4 v) :: rest →
      step s = (.next (replied (stored off v s) rest ⟨false, none⟩) : Out) := by
    intro s rest off mask v hmem h
    obtain ⟨hlo, hal⟩ := writableMasks_offset hmem
    exact (step_writeReg h hlo hal).trans (congrArg _ (writable_register hmem v s rest _).1)
  refine ⟨hwrite, fun s off mask v hmem => ?_⟩
  obtain ⟨hlo, hal⟩ := writableMasks_offset hmem
  let s₁ : State := { s with agenda := [.access (.write off .b4 v), .access (.read off .b4)] }
  obtain ⟨-, hread, hlog⟩ := writable_register hmem v s₁ [] okayWrite
  refine ⟨_, runs_two (hwrite s₁ _ off mask v hmem rfl) (step_readReg rfl hlo hal), ?_⟩
  rw [readReg_replied, hread]
  simp [replied, hlog, s₁]

/-! ## Read-only and reserved registers -/

theorem regAt_reserved {off : Nat} (h : 0x50 ≤ off) : regAt off = .reserved := by
  unfold regAt
  split
  case h_21 => rfl
  all_goals omega

/-- Settles O45: each offset is a register the map reads as a constant or a field, and ignores on a write. -/
theorem readOnlyAndReservedRegisters : Obligations.ReadOnlyAndReservedRegisters := by
  refine ⟨fun s rest off w hmem h => ?_, fun s rest off hlo hhi hal h => ?_, fun s rest off v hoff h => ?_⟩
  · simp only [List.mem_cons, Prod.mk.injEq, List.not_mem_nil, or_false] at hmem
    have hirq : s.irqStatus.setWidth 32 = 0#26 ++ s.irqStatus := BitVec.setWidth_eq_append (by decide)
    have hidle : s.idle.setWidth 32 = 0#16 ++ s.idle := BitVec.setWidth_eq_append (by decide)
    rcases hmem with ⟨rfl, rfl⟩ | ⟨rfl, rfl⟩ | ⟨rfl, rfl⟩ | ⟨rfl, rfl⟩ | ⟨rfl, rfl⟩ | ⟨rfl, rfl⟩ | ⟨rfl, rfl⟩ | ⟨rfl, rfl⟩
    case inr.inr.inr.inr.inl => exact hirq ▸ step_readReg h (by decide) (by decide)
    case inr.inr.inr.inr.inr.inr.inl => exact hidle ▸ step_readReg h (by decide) (by decide)
    all_goals exact step_readReg h (by decide) (by decide)
  · rw [step_readReg h (by omega) hal, regAt_reserved hlo]
    rfl
  · rcases hoff with hmem | ⟨hlo, hhi, hal⟩
    · simp only [List.mem_cons, List.not_mem_nil, or_false] at hmem
      rcases hmem with rfl | rfl | rfl | rfl | rfl | rfl | rfl
      all_goals exact step_writeReg h (by decide) (by decide)
    · rw [step_writeReg h (by omega) hal, regAt_reserved hlo]
      rfl

/-! ## PARAM and STATUS -/

theorem getLsbD_bitAt {b : Bool} {i j : Nat} (hj : j < 32) : (bitAt b i).getLsbD j = (b && decide (j = i)) := by
  unfold bitAt
  rw [BitVec.getLsbD_shiftLeft, BitVec.getLsbD_setWidth, BitVec.getLsbD_ofBool]
  grind

/-- STATUS bit by bit (10 R30). -/
theorem getLsbD_statusWord (s : State) {j : Nat} (hj : j < 32) :
    (statusWord s).getLsbD j =
      (s.busy && decide (j = 0) || s.isOn && decide (j = 1) || s.fatal && decide (j = 2) ||
        s.tickPend && decide (j = 3) || s.internal && decide (j = 4) || decide (8 ≤ j) && s.err.code.getLsbD (j - 8) ||
        s.pins.boostEn && decide (j = 16) || s.pins.dispEn && decide (j = 17) || s.pins.extcominEn && decide (j = 18) ||
        s.pins.wakeArm && decide (j = 19)) := by
  have herr : (s.err.code.setWidth 32 <<< 8).getLsbD j = (decide (8 ≤ j) && s.err.code.getLsbD (j - 8)) := by
    rw [BitVec.getLsbD_shiftLeft, BitVec.getLsbD_setWidth]
    grind
  simp only [statusWord, BitVec.getLsbD_or, getLsbD_bitAt hj, herr]

/-- A reserved bit of STATUS reads 0 (10 R30). -/
theorem getLsbD_statusWord_reserved (s : State) {j : Nat}
    (hj : 5 ≤ j ∧ j < 8 ∨ 12 ≤ j ∧ j < 16 ∨ 20 ≤ j ∧ j < 32) : (statusWord s).getLsbD j = false := by
  have herr : (decide (8 ≤ j) && s.err.code.getLsbD (j - 8)) = false := by
    rcases hj with ⟨-, h⟩ | h
    · simp [h]
    · rw [BitVec.getLsbD_of_ge _ _ (by omega), Bool.and_false]
  have hne : j ≠ 0 ∧ j ≠ 1 ∧ j ≠ 2 ∧ j ≠ 3 ∧ j ≠ 4 ∧ j ≠ 16 ∧ j ≠ 17 ∧ j ≠ 18 ∧ j ≠ 19 := by omega
  rw [getLsbD_statusWord s (by omega), herr]
  simp [hne]

theorem extractLsb'_statusWord_reserved (s : State) {k n : Nat}
    (h : 5 ≤ k ∧ k + n ≤ 8 ∨ 12 ≤ k ∧ k + n ≤ 16 ∨ 20 ≤ k ∧ k + n ≤ 32) : (statusWord s).extractLsb' k n = 0#n := by
  refine BitVec.eq_of_getLsbD_eq fun i hi => ?_
  rw [BitVec.getLsbD_extractLsb', getLsbD_statusWord_reserved s (by omega)]
  simp

theorem extractLsb'_statusWord_err (s : State) : (statusWord s).extractLsb' 8 4 = s.err.code := by
  refine BitVec.eq_of_getLsbD_eq fun i hi => ?_
  have hne : 8 + i ≠ 1 ∧ 8 + i ≠ 2 ∧ 8 + i ≠ 3 ∧ 8 + i ≠ 4 ∧ 8 + i ≠ 16 ∧ 8 + i ≠ 17 ∧ 8 + i ≠ 18 ∧ 8 + i ≠ 19 := by
    omega
  rw [BitVec.getLsbD_extractLsb', getLsbD_statusWord _ (by omega)]
  simp [hi, hne]

/-- PARAM bit by bit (10 R27); that its three fields do not overlap takes their bounds. -/
theorem getLsbD_paramWord (b : Build) {j : Nat} (hj : j < 32) :
    (paramWord b).getLsbD j = (Nat.testBit 300 j || decide (16 ≤ j) && Nat.testBit b.chunkLines (j - 16) ||
      decide (24 ≤ j) && Nat.testBit b.numFonts (j - 24)) := by
  simp only [paramWord, BitVec.getLsbD_or, BitVec.getLsbD_shiftLeft, BitVec.getLsbD_ofNat]
  have h16 : j - 16 < 32 := by omega
  have h24 : j - 24 < 32 := by omega
  simp only [hj, h16, h24, decide_true, Bool.true_and, ← decide_not, Nat.not_lt]

theorem paramWord_offTimeout (b : Build) : (paramWord b).extractLsb' 0 16 = 300#16 := by
  refine BitVec.eq_of_getLsbD_eq fun i hi => ?_
  have h16 : ¬ 16 ≤ i := by omega
  have h24 : ¬ 24 ≤ i := by omega
  rw [BitVec.getLsbD_extractLsb', getLsbD_paramWord _ (by omega), BitVec.getLsbD_ofNat]
  simp [h16, h24]

theorem paramWord_chunkLines (b : Build) : ((paramWord b).extractLsb' 16 8).toNat = b.chunkLines := by
  have hlt : b.chunkLines < 2 ^ 8 := by unfold Build.chunkLines; omega
  have hfield : (paramWord b).extractLsb' 16 8 = BitVec.ofNat 8 b.chunkLines := by
    refine BitVec.eq_of_getLsbD_eq fun i hi => ?_
    have h300 : Nat.testBit 300 (16 + i) = false :=
      Nat.testBit_lt_two_pow ((by decide : 300 < 2 ^ 16).trans_le (Nat.pow_le_pow_right (by decide) (by omega)))
    have h24 : ¬ 24 ≤ 16 + i := by omega
    rw [BitVec.getLsbD_extractLsb', getLsbD_paramWord _ (by omega), BitVec.getLsbD_ofNat, h300]
    simp [hi, h24]
  rw [hfield, BitVec.toNat_ofNat, Nat.mod_eq_of_lt hlt]

theorem paramWord_numFonts (b : Build) : ((paramWord b).extractLsb' 24 8).toNat = b.numFonts := by
  have hchunk : b.chunkLines < 2 ^ 8 := by unfold Build.chunkLines; omega
  have hlt : b.numFonts < 2 ^ 8 := by unfold Build.numFonts; omega
  have hfield : (paramWord b).extractLsb' 24 8 = BitVec.ofNat 8 b.numFonts := by
    refine BitVec.eq_of_getLsbD_eq fun i hi => ?_
    have h300 : Nat.testBit 300 (24 + i) = false :=
      Nat.testBit_lt_two_pow ((by decide : 300 < 2 ^ 16).trans_le (Nat.pow_le_pow_right (by decide) (by omega)))
    have hc : Nat.testBit b.chunkLines (24 + i - 16) = false :=
      Nat.testBit_lt_two_pow (hchunk.trans_le (Nat.pow_le_pow_right (by decide) (by omega)))
    rw [BitVec.getLsbD_extractLsb', getLsbD_paramWord _ (by omega), BitVec.getLsbD_ofNat, h300, hc]
    simp [hi]
  rw [hfield, BitVec.toNat_ofNat, Nat.mod_eq_of_lt hlt]

/-- Settles O46, from PARAM and STATUS bit by bit. -/
theorem paramAndStatusFields : Obligations.ParamAndStatusFields := by
  refine ⟨fun s rest h => ⟨paramWord s.build, step_readReg h (by decide) (by decide), paramWord_offTimeout _,
    paramWord_chunkLines _, ?_⟩, fun s rest h => step_readReg h (by decide) (by decide), fun s => ?_⟩
  · rw [paramWord_numFonts, Build.numFonts, List.length_take, Nat.min_comm]
  · have hbusy : s.busy = decide (s.latch ≠ .empty) := by simp [State.busy, bne, beq_eq_decide]
    have hint : s.internal = decide (s.latch = .autoOff) := by simp [State.internal, beq_eq_decide]
    have hcode : s.err.code = (match s.err with
        | .none => 0#4 | .illegal => 1#4 | .badArg => 2#4 | .srcRange => 3#4 | .glyphRange => 4#4) := by
      cases s.err <;> rfl
    refine ⟨?_, ?_, ?_, ?_, ?_, extractLsb'_statusWord_reserved s (by omega),
      (extractLsb'_statusWord_err s).trans hcode, extractLsb'_statusWord_reserved s (by omega), ?_, ?_, ?_, ?_,
      extractLsb'_statusWord_reserved s (by omega)⟩
    all_goals rw [getLsbD_statusWord s (by decide)]; simp [hbusy, hint]

/-! ## The IRQ output -/

/-- Settles O52, bit by bit. -/
theorem irqLevelAndAcknowledge : Obligations.IrqLevelAndAcknowledge := by
  refine ⟨fun s => ?_, fun s rest v h => ⟨_, step_writeReg h (by decide) (by decide), fun i hi => ?_⟩⟩
  · rw [irqOut, bne_iff_ne, ne_eq, BitVec.eq_of_getLsbD_eq_iff]
    simp
  · have hack : (s.irqStatus &&& ~~~(v.setWidth 6)).getLsbD i = (s.irqStatus.getLsbD i && !(v.getLsbD i)) := by
      simp [hi]
    exact hack

end Sys2Proof.Machine
end

section
/-! PROOFS. The windows of SRC and FB seen from the bus (spec 20 R60 to R68, R78 to R80): where an offset leads, the
little-endian datum byte by byte, and the step of an access to each window. -/

namespace Sys2Proof.Machine

open Sys2Proof.Claims

/-! ## Where an offset leads (20 R60) -/

theorem regionOf_eq_reg_iff {off o : Nat} : regionOf off = .reg o ↔ off < 0x100 ∧ o = off := by
  unfold regionOf
  split_ifs <;> simp <;> omega

theorem regionOf_eq_src_iff {off a : Nat} :
    regionOf off = .src a ↔ 0x4000 ≤ off ∧ off < 0x8000 ∧ a = off - 0x4000 := by
  unfold regionOf
  split_ifs <;> simp <;> omega

theorem regionOf_eq_fb_iff {off a : Nat} :
    regionOf off = .fb a ↔ 0x8000 ≤ off ∧ off < 0x8000 + 12000 ∧ a = off - 0x8000 := by
  unfold regionOf Config.fbBytes
  split_ifs <;> simp <;> omega

/-- A window that begins at a multiple of 4 does not move the alignment of an access (20 R62, R63). -/
theorem Size.sub_mod_bytes (size : Size) {base off : Nat} (hbase : 4 ∣ base) (h : base ≤ off) :
    (off - base) % size.bytes = off % size.bytes := by
  cases size <;> simp only [Size.bytes] <;> omega

/-! ## The little-endian datum (20 R65) -/

theorem wordOf_lt (bs : List Byte) : (wordOf bs).toNat < 2 ^ (8 * bs.length) := by
  induction bs with
  | nil => simp [wordOf]
  | cons b bs ih =>
    have hpow : 2 ^ (8 * (b :: bs).length) = 2 ^ (8 * bs.length) * 2 ^ 8 := by
      rw [List.length_cons, Nat.mul_succ, Nat.pow_add]
    have hb : (b.setWidth 32).toNat < 2 ^ (8 * (b :: bs).length) := by
      have := Nat.two_pow_pos (8 * bs.length)
      have := b.isLt
      rw [hpow, BitVec.toNat_setWidth]
      omega
    have hbs : (wordOf bs <<< 8).toNat < 2 ^ (8 * (b :: bs).length) := by
      rw [hpow, BitVec.toNat_shiftLeft, Nat.shiftLeft_eq]
      omega
    rw [wordOf, BitVec.toNat_or]
    exact Nat.or_lt_two_pow hb hbs

/-- Byte `i` of the datum is the `i`-th byte of the list. -/
theorem extractLsb'_wordOf {bs : List Byte} {i : Nat} {b : Byte} (hi : i < 4) (h : bs[i]? = some b) :
    (wordOf bs).extractLsb' (8 * i) 8 = b := by
  induction bs generalizing i with
  | nil => simp at h
  | cons c bs ih =>
    cases i with
    | zero =>
      obtain rfl : c = b := by simpa using h
      refine BitVec.eq_of_getLsbD_eq fun j hj => ?_
      have hj32 : j < 32 := by omega
      simp [wordOf, hj, hj32]
    | succ i =>
      rw [← ih (i := i) (by omega) (by simpa using h)]
      refine BitVec.eq_of_getLsbD_eq fun j hj => ?_
      have hj8 : 8 * (i + 1) + j = 8 * i + j + 8 := by omega
      have hj32 : 8 * i + j + 8 < 32 := by omega
      have hc : c.getLsbD (8 * i + j + 8) = false := BitVec.getLsbD_of_ge _ _ (by omega)
      rw [BitVec.getLsbD_extractLsb', BitVec.getLsbD_extractLsb', hj8, wordOf, BitVec.getLsbD_or,
        BitVec.getLsbD_setWidth, BitVec.getLsbD_shiftLeft, hc]
      simp [hj32]

/-- Two words that agree on their low `n` bytes, the first with nothing above them. -/
theorem eq_mod_of_bytes {w v : Word} {n : Nat} (hlt : w.toNat < 2 ^ (8 * n))
    (h : ∀ i, i < n → w.extractLsb' (8 * i) 8 = v.extractLsb' (8 * i) 8) :
    w = BitVec.ofNat 32 (v.toNat % 2 ^ (8 * n)) := by
  refine BitVec.eq_of_getLsbD_eq fun j hj => ?_
  rw [BitVec.getLsbD_ofNat, Nat.testBit_mod_two_pow]
  by_cases hjn : j < 8 * n
  · have hbit := congrArg (·.getLsbD (j % 8)) (h (j / 8) (by omega))
    have hmod : j % 8 < 8 := Nat.mod_lt _ (by decide)
    simp only [BitVec.getLsbD_extractLsb', hmod, decide_true, Bool.true_and, Nat.div_add_mod] at hbit
    rw [hbit, BitVec.testBit_toNat]
    simp [hj, hjn]
  · have hw : w.getLsbD j = false :=
      Nat.testBit_lt_two_pow (hlt.trans_le (Nat.pow_le_pow_right (by decide) (by omega)))
    simp [hw, hjn]

/-- One more byte below a datum. -/
theorem setWidth_or_shiftLeft_eq_append {k : Nat} (b : Byte) (x : BitVec k) :
    b.setWidth 32 ||| (x.setWidth 32 <<< 8) = (x ++ b).setWidth 32 := by
  refine BitVec.eq_of_getLsbD_eq fun j hj => ?_
  by_cases h8 : j < 8
  · simp [BitVec.getLsbD_append, hj, h8]
  · have hb : b.getLsbD j = false := BitVec.getLsbD_of_ge _ _ (by omega)
    simp [BitVec.getLsbD_append, hj, h8, hb]

theorem wordOf_one (b : Byte) : wordOf [b] = b.setWidth 32 := by simp [wordOf]

theorem wordOf_two (b c : Byte) : wordOf [b, c] = (c ++ b).setWidth 32 := by
  rw [wordOf, wordOf_one, setWidth_or_shiftLeft_eq_append]

theorem wordOf_four (b c d e : Byte) : wordOf [b, c, d, e] = e ++ d ++ c ++ b := by
  rw [wordOf, wordOf, wordOf_two, setWidth_or_shiftLeft_eq_append, setWidth_or_shiftLeft_eq_append]
  exact BitVec.setWidth_eq _

/-! ## Any read, and the accesses the bus rejects -/

/-- Settles O47: a host read gives a reply and may draw free bytes. -/
theorem readsHaveNoSideEffects : Obligations.ReadsHaveNoSideEffects := by
  intro s rest off size h
  obtain ⟨r, d, hread⟩ := hostRead_eq off.toNat size { s with agenda := rest }
  exact ⟨r, d, by rw [step_access h, hostAccess, hread]; rfl⟩

/-- The accesses the bus rejects: unmapped, misaligned, or to a register and not of 4 bytes (20 R61 to R64). -/
def BadAccess (off : Nat) (size : Size) : Prop :=
  (0x100 ≤ off ∧ off < 0x4000) ∨ 0xAEE0 ≤ off ∨ off % size.bytes ≠ 0 ∨ (off < 0x100 ∧ size ≠ .b4)

theorem BadAccess.of_reg {off o : Nat} {size : Size} (h : BadAccess off size) (hreg : regionOf off = .reg o) :
    ¬ (size = .b4 ∧ o % 4 = 0) := by
  obtain ⟨hlo, rfl⟩ := regionOf_eq_reg_iff.mp hreg
  rintro ⟨rfl, hal⟩
  simp only [BadAccess, Size.bytes, ne_eq, not_true_eq_false, and_false, or_false] at h
  omega

theorem BadAccess.of_src {off a : Nat} {size : Size} (h : BadAccess off size) (hreg : regionOf off = .src a) :
    a % size.bytes ≠ 0 := by
  obtain ⟨hlo, hhi, hoff⟩ := regionOf_eq_src_iff.mp hreg
  rw [hoff, size.sub_mod_bytes (by omega) hlo]
  unfold BadAccess at h
  omega

theorem BadAccess.of_fb {off a : Nat} {size : Size} (h : BadAccess off size) (hreg : regionOf off = .fb a) :
    a % size.bytes ≠ 0 := by
  obtain ⟨hlo, hhi, hoff⟩ := regionOf_eq_fb_iff.mp hreg
  rw [hoff, size.sub_mod_bytes (by omega) hlo]
  unfold BadAccess at h
  omega

theorem BadAccess.hostRead_eq {off : Nat} {size : Size} (h : BadAccess off size) (s : State) :
    hostRead off size s = s.reply slverrRead := by
  unfold hostRead
  split
  · next hreg => exact if_neg (h.of_reg hreg)
  · next hreg => exact if_neg (h.of_src hreg)
  · next hreg => exact if_neg (h.of_fb hreg)
  · rfl

theorem BadAccess.hostWrite_eq {off : Nat} {size : Size} (h : BadAccess off size) (v : Word) (s : State) :
    hostWrite off size v s = s.reply slverrWrite := by
  unfold hostWrite
  split
  · next hreg => exact if_neg (h.of_reg hreg)
  · next hreg => exact if_neg (h.of_src hreg)
  · rfl
  · rfl

/-- Settles O51: in each region the bus rejects a bad access. -/
theorem badAccessesAreSlverr : Obligations.BadAccessesAreSlverr := by
  intro s rest off size hbad
  have hbad : BadAccess off.toNat size := hbad
  refine ⟨fun h => ?_, fun v h => ?_⟩
  · rw [step_access h, hostAccess, hbad.hostRead_eq]
    rfl
  · rw [step_access h, hostAccess, hbad.hostWrite_eq]
    rfl

/-! ## The SRC window -/

theorem srcRead_srcWriteBytes (a n c : Nat) (v : Word) (m : Memory) :
    srcRead (srcWriteBytes a n v m) c = if a ≤ c ∧ c < a + n then some (byteOf v (c - a)) else srcRead m c := by
  induction n with
  | zero => rw [if_neg (by omega)]; rfl
  | succ n ih =>
    have hlast : srcWriteBytes a (n + 1) v m = srcWrite (a + n) (byteOf v n) (srcWriteBytes a n v m) := by
      simp [srcWriteBytes, List.range_succ]
    rw [hlast, srcRead_srcWrite, ih]
    by_cases hc : c = a + n
    · subst hc
      simp
    · have hiff : (a ≤ c ∧ c < a + n) ↔ (a ≤ c ∧ c < a + (n + 1)) := by omega
      rw [if_neg hc, if_congr hiff rfl rfl]

/-- The datum of an SRC read of `n` bytes from `a` on, free bytes for the unwritten ones (20 R65, 70 R382). -/
def srcDatum (s : State) (a n : Nat) : Word :=
  wordOf ((List.range n).map fun i => srcHostByte s.src (a + i) (s.draws + i))

theorem srcDatum_lt (s : State) (a n : Nat) : (srcDatum s a n).toNat < 2 ^ (8 * n) := by
  simpa [srcDatum] using wordOf_lt ((List.range n).map fun i => srcHostByte s.src (a + i) (s.draws + i))

theorem extractLsb'_srcDatum {s : State} {a n i : Nat} {b : Byte} (hn : n ≤ 4) (hi : i < n)
    (hb : srcRead s.src (a + i) = some b) : (srcDatum s a n).extractLsb' (8 * i) 8 = b :=
  extractLsb'_wordOf (by omega) (by simp [srcHostByte, hi, hb])

theorem readSrc_eq (s : State) (rest : List Event) (a n : Nat) :
    readSrc a n { s with agenda := rest } = { replied s rest ⟨false, some (srcDatum s a n)⟩ with
      draws := if srcWritten s.src a n then s.draws else s.draws + n } := rfl

/-- The step of an aligned SRC read: each written byte stands in its place, with 0 above the bytes read, and free bytes are
drawn only if one is unwritten (20 R62, R65, 70 R382). -/
theorem step_readSrc {s : State} {rest : List Event} {off : Half} {size : Size} (hlo : 0x4000 ≤ off.toNat)
    (hhi : off.toNat < 0x8000) (hal : off.toNat % size.bytes = 0) (h : s.agenda = .access (.read off size) :: rest) :
    ∃ (w : Word) (d : Nat), step s = (.next { replied s rest ⟨false, some w⟩ with draws := d } : Out) ∧
      (∀ (i : Nat) (b : Byte), i < size.bytes → srcRead s.src (off.toNat - 0x4000 + i) = some b →
        w.extractLsb' (8 * i) 8 = b) ∧
      w.toNat < 2 ^ (8 * size.bytes) ∧
      ((∀ i, i < size.bytes → srcRead s.src (off.toNat - 0x4000 + i) ≠ none) → d = s.draws) := by
  have hal' : (off.toNat - 0x4000) % size.bytes = 0 := (size.sub_mod_bytes (by omega) hlo).trans hal
  have hsize : size.bytes ≤ 4 := by cases size <;> decide
  have hstep := step_access h
  rw [hostAccess, hostRead, regionOf_eq_src_iff.mpr ⟨hlo, hhi, rfl⟩] at hstep
  simp only [hal', if_true, readSrc_eq] at hstep
  refine ⟨_, _, hstep, fun i b => extractLsb'_srcDatum hsize, srcDatum_lt _ _ _, fun hall => if_pos ?_⟩
  simpa [srcWritten, Option.isSome_iff_ne_none] using hall

/-- The step of an aligned SRC write (20 R62). -/
theorem step_writeSrc {s : State} {rest : List Event} {off : Half} {size : Size} {v : Word} (hlo : 0x4000 ≤ off.toNat)
    (hhi : off.toNat < 0x8000) (hal : off.toNat % size.bytes = 0) (h : s.agenda = .access (.write off size v) :: rest) :
    step s = .next (writeSrc (off.toNat - 0x4000) size.bytes v { s with agenda := rest }) := by
  have hal' : (off.toNat - 0x4000) % size.bytes = 0 := (size.sub_mod_bytes (by omega) hlo).trans hal
  rw [step_access h, hostAccess, hostWrite, regionOf_eq_src_iff.mpr ⟨hlo, hhi, rfl⟩]
  simp only [hal', if_true]

theorem writeSrc_idle {s : State} (hl : s.latch = .empty) (rest : List Event) (a n : Nat) (v : Word) :
    writeSrc a n v { s with agenda := rest } =
      { replied s rest ⟨false, none⟩ with src := srcWriteBytes a n v s.src } := by
  have hbusy : ({ s with agenda := rest } : State).busy = false := State.busy_eq_false.mpr hl
  rw [writeSrc, hbusy]
  rfl

theorem State.busy_of_latched {s : State} (hl : s.latch ≠ .empty) : s.busy = true := by
  simpa [State.busy] using hl

theorem writeSrc_busy {s : State} (hl : s.latch ≠ .empty) (rest : List Event) (a n : Nat) (v : Word) :
    writeSrc a n v { s with agenda := rest } =
      { replied s rest ⟨false, none⟩ with irqStatus := s.irqStatus ||| 0b010000#6 } := by
  have hbusy : ({ s with agenda := rest } : State).busy = true := State.busy_of_latched hl
  rw [writeSrc, hbusy]
  rfl

/-- Settles O48: the read is `step_readSrc`, in the second step on the memory the write left. -/
theorem srcWriteThenRead : Obligations.SrcWriteThenRead := by
  intro s off size n hn hlo hhi hal
  obtain rfl : n = size.bytes := by rcases hn with ⟨rfl, rfl⟩ | ⟨rfl, rfl⟩ | ⟨rfl, rfl⟩ <;> rfl
  refine ⟨fun v hl => ?_, fun rest h => step_readSrc hlo hhi hal h⟩
  let s₁ : State := { s with agenda := [.access (.write off size v), .access (.read off size)] }
  let s₂ : State :=
    { replied s₁ [.access (.read off size)] ⟨false, none⟩ with
      src := srcWriteBytes (off.toNat - 0x4000) size.bytes v s.src }
  have hwrite : step s₁ = .next s₂ :=
    (step_writeSrc hlo hhi hal rfl).trans (congrArg _ (writeSrc_idle (s := s₁) hl _ _ _ _))
  have hmem (i : Nat) (hi : i < size.bytes) :
      srcRead s₂.src (off.toNat - 0x4000 + i) = some (v.extractLsb' (8 * i) 8) := by
    rw [srcRead_srcWriteBytes, if_pos (by omega), Nat.add_sub_cancel_left, byteOf]
  obtain ⟨w, d, hread, hbytes, hlt, hdraws⟩ := step_readSrc (s := s₂) hlo hhi hal rfl
  have hw : w = BitVec.ofNat 32 (v.toNat % 2 ^ (8 * size.bytes)) :=
    eq_mod_of_bytes hlt fun i hi => hbytes i _ hi (hmem i hi)
  obtain rfl : d = s.draws := hdraws fun i hi => by simp [hmem i hi]
  refine ⟨_, runs_two hwrite hread, by simp [replied, s₁, s₂, hw], hmem, fun b hb => ?_, rfl⟩
  exact (srcRead_srcWriteBytes ..).trans (if_neg (by omega))

/-- Settles O49: while BUSY = 1 the write only raises OVR. -/
theorem srcWriteWhileBusyDropped : Obligations.SrcWriteWhileBusyDropped := by
  intro s rest off size v hlo hhi hal hl h
  rw [step_writeSrc hlo hhi hal h, writeSrc_busy hl]

/-! ## The FB window -/

/-- The step of an aligned FB read (20 R63). -/
theorem step_readFb {s : State} {rest : List Event} {off : Half} {size : Size} (hlo : 0x8000 ≤ off.toNat)
    (hhi : off.toNat < 0x8000 + 12000) (hal : off.toNat % size.bytes = 0)
    (h : s.agenda = .access (.read off size) :: rest) :
    step s = .next (readFb (off.toNat - 0x8000) size.bytes { s with agenda := rest }) := by
  have hal' : (off.toNat - 0x8000) % size.bytes = 0 := (size.sub_mod_bytes (by omega) hlo).trans hal
  rw [step_access h, hostAccess, hostRead, regionOf_eq_fb_iff.mpr ⟨hlo, hhi, rfl⟩]
  simp only [hal', if_true]

theorem readFb_idle {s : State} (hl : s.latch = .empty) (rest : List Event) (a n : Nat) :
    readFb a n { s with agenda := rest } =
      replied s rest ⟨false, some (wordOf ((List.range n).map fun i => fbRead s.fb (a + i)))⟩ := by
  have hbusy : ({ s with agenda := rest } : State).busy = false := State.busy_eq_false.mpr hl
  rw [readFb, hbusy]
  rfl

theorem readFb_busy {s : State} (hl : s.latch ≠ .empty) (rest : List Event) (a n : Nat) :
    ∃ w d, readFb a n { s with agenda := rest } = { replied s rest ⟨false, some w⟩ with draws := d } := by
  have hbusy : ({ s with agenda := rest } : State).busy = true := State.busy_of_latched hl
  rw [readFb, hbusy]
  exact ⟨_, _, rfl⟩

/-- Settles O50: a read is `step_readFb`, its datum the bytes put together; a write is answered by its region alone. -/
theorem fbWindow : Obligations.FbWindow := by
  intro s rest off hlo hhi
  refine ⟨fun hl => ⟨fun h => ?_, fun hal h => ?_, fun hal h => ?_⟩, fun size hl hal h => ?_, fun size v h => ?_⟩
  · rw [step_readFb hlo hhi (Nat.mod_one _) h, readFb_idle hl]
    simp [Size.bytes, wordOf_one]
  · rw [step_readFb (size := .b2) hlo hhi hal h, readFb_idle hl]
    simp [Size.bytes, List.range_succ, wordOf_two]
  · rw [step_readFb (size := .b4) hlo hhi hal h, readFb_idle hl]
    simp [Size.bytes, List.range_succ, wordOf_four]
  · obtain ⟨w, d, hread⟩ := readFb_busy hl rest (off.toNat - 0x8000) size.bytes
    exact ⟨w, d, by rw [step_readFb hlo hhi hal h, hread]⟩
  · rw [step_access h, hostAccess, hostWrite, regionOf_eq_fb_iff.mpr ⟨hlo, hhi, rfl⟩]
    rfl

end Sys2Proof.Machine
end

section
/-! PROOFS. The command words (30 R90 to R93, 40 R139) and the wire frames (30 R102 to R105): what decoding gives, and
that a receiver reads every frame back; the stops by name, ILLEGAL, and the frames as sent. -/

namespace Sys2Proof.Machine

open Sys2Proof.Claims

/-! ## Command words -/

/-- A word is its RSV field followed by its OP field (30 R90). -/
theorem rsvField_append_opField (w : Word) : rsvField w ++ opField w = w := by
  ext i hi
  simp only [rsvField, opField, BitVec.getElem_append, BitVec.getElem_extractLsb', Nat.zero_add]
  split
  · rw [BitVec.getLsbD_eq_getElem hi]
  · rw [Nat.add_sub_cancel' (by omega), BitVec.getLsbD_eq_getElem hi]

theorem mem_of_opLookup {op : BitVec 8} {i : Instr} {rows : List (BitVec 8 × Instr)}
    (h : opLookup op rows = some i) : (op, i) ∈ rows := by
  induction rows with
  | nil => cases h
  | cons row rows ih =>
    rw [opLookup] at h
    split at h
    · next hk => cases h; exact hk ▸ List.mem_cons_self
    · exact List.mem_cons_of_mem _ (ih h)

theorem not_mem_of_opLookup_none {op : BitVec 8} {rows : List (BitVec 8 × Instr)} (h : opLookup op rows = none) :
    op ∉ rows.map Prod.fst := by
  induction rows with
  | nil => exact List.not_mem_nil
  | cons row rows ih =>
    rw [opLookup] at h
    split at h
    · cases h
    · next hk => simpa [Ne.symm hk] using ih h

/-- What decoding a word can give (40 R139): a row of the opcode map whose OP value is the word, or ILLEGAL holding a word
that no row matches. -/
theorem decode_cases (w : Word) :
    (∃ op, (op, decode w) ∈ opcodeMap ∧ w = 0#24 ++ op) ∨ (decode w = .illegal w ∧ legalWord w = false) := by
  rw [decode]
  split
  · next hrsv =>
    cases hop : opLookup (opField w) opcodeMap with
    | some i => exact .inl ⟨opField w, mem_of_opLookup hop, by rw [← hrsv, rsvField_append_opField]⟩
    | none =>
      have hout : opField w ∉ legalOps := not_mem_of_opLookup_none hop
      exact .inr ⟨rfl, by simpa [legalWord, opField] using fun _ => hout⟩
  · next hrsv => exact .inr ⟨rfl, by simp [legalWord, show w.extractLsb' 8 24 ≠ 0#24 from hrsv]⟩

/-- Every row of the opcode map is a well-formed host command whose word is its OP value with RSV = 0 (30 R91). -/
theorem opcodeMap_rows : ∀ row ∈ opcodeMap,
    encode row.2 = some (0#24 ++ row.1) ∧ WellFormed row.2 ∧ isCommand row.2 = true := by decide

/-- Settles O3: sixteen closed words, evaluated. -/
theorem decodeReadsOpcodeMap : Obligations.DecodeReadsOpcodeMap := by
  unfold Obligations.DecodeReadsOpcodeMap
  decide

/-- Settles O4: by `decode_cases`; a row of the map encodes to its word, and ILLEGAL holds the word itself. -/
theorem encodeOfDecodedWord : Obligations.EncodeOfDecodedWord := by
  intro w
  obtain ⟨op, hrow, hw⟩ | ⟨hill, hword⟩ := decode_cases w
  · obtain ⟨henc, hwf, hcmd⟩ := opcodeMap_rows _ hrow
    exact ⟨hw ▸ henc, hwf, hcmd⟩
  · rw [hill]
    exact ⟨rfl, by simp [WellFormed, Instr.wellFormed, hword], rfl⟩

/-! ## Wire frames, read back -/

/-- The bytes of rows `r0` to `r0 + n - 1` in a chunk, without the command byte and the last trailer (30 R104). -/
def chunkBody (rowData : Nat → List Byte) (r0 n : Nat) : List Byte :=
  (List.range' r0 n).flatMap fun r => chunkLine r (rowData r)

theorem chunkFrame_eq (rowData : Nat → List Byte) (r0 n : Nat) :
    chunkFrame r0 n rowData = 0x01#8 :: (chunkBody rowData r0 n ++ [0x00#8]) := by
  rw [chunkFrame, chunkBody, List.range'_eq_map_range, List.flatMap_map]

@[simp] theorem chunkBody_zero (rowData : Nat → List Byte) (r0 : Nat) : chunkBody rowData r0 0 = [] := rfl

theorem chunkBody_succ (rowData : Nat → List Byte) (r0 n : Nat) :
    chunkBody rowData r0 (n + 1) = chunkLine r0 (rowData r0) ++ chunkBody rowData (r0 + 1) n := rfl

theorem length_chunkBody {rowData : Nat → List Byte} (hrow : ∀ r, r < 240 → (rowData r).length = 50) {r0 n : Nat}
    (h : r0 + n ≤ 240) : (chunkBody rowData r0 n).length = 52 * n := by
  induction n generalizing r0 with
  | zero => rfl
  | succ n ih =>
    simp only [chunkBody_succ, chunkLine, List.length_append, List.length_cons, List.length_nil,
      hrow r0 (by omega), ih (r0 := r0 + 1) (by omega)]
    omega

/-- A chunk of one line is the single-line frame of its row (45 R278). -/
theorem chunkFrame_one (rowData : Nat → List Byte) (r : Nat) : chunkFrame r 1 rowData = lineFrame r (rowData r) := by
  simp [chunkFrame, chunkLine, lineFrame]

/-- A line number byte names its row (45 R275). -/
theorem rowOfLine_lineNumber {r : Nat} (h : r < 240) : rowOfLine (lineNumber r) = some r := by
  have hnat : (lineNumber r).toNat = r + 1 := by
    rw [lineNumber, BitVec.toNat_ofNat, Nat.mod_eq_of_lt (by omega)]
  rw [rowOfLine, hnat, if_pos ⟨by omega, h⟩, Nat.add_sub_cancel]

/-- The receiver reads one line of a chunk and goes on with the next row (30 R104). -/
theorem readChunkLines_chunkLine {data : List Byte} (hdata : data.length = 50) {r : Nat} (hr : r < 240) (n : Nat)
    (rest : List Byte) : readChunkLines (n + 1) r (chunkLine r data ++ rest) = readChunkLines n (r + 1) rest := by
  have hdrop : (chunkLine r data ++ rest).drop 51 = 0x00#8 :: rest := by
    simp [chunkLine, hdata]
  rw [readChunkLines, if_pos ⟨hr, rfl⟩, hdrop]
  exact if_pos rfl

theorem readChunkLines_chunkBody {rowData : Nat → List Byte} (hrow : ∀ r, r < 240 → (rowData r).length = 50)
    {r0 n : Nat} (h : r0 + n ≤ 240) (rest : List Byte) :
    readChunkLines n r0 (chunkBody rowData r0 n ++ rest) = .ok rest := by
  induction n generalizing r0 with
  | zero => rfl
  | succ n ih =>
    rw [chunkBody_succ, List.append_assoc, readChunkLines_chunkLine (hrow r0 (by omega)) (by omega)]
    exact ih (by omega)

/-- The first byte 0x01 tells a line or chunk frame (30 R105). -/
theorem decodeFrame_write (bytes : List Byte) : decodeFrame (0x01#8 :: bytes) = decodeWriteFrame bytes := rfl

/-- The receiver reads a single-line frame back (30 R103). -/
theorem decodeFrame_lineFrame {data : List Byte} (hdata : data.length = 50) {r : Nat} (hr : r < 240) :
    decodeFrame (lineFrame r data) = .ok (.wireLine r) := by
  have hdrop : (lineNumber r :: (data ++ [0x00#8, 0x00#8])).drop 51 = [0x00#8, 0x00#8] := by
    simp [hdata]
  refine (decodeFrame_write (lineNumber r :: (data ++ [0x00#8, 0x00#8]))).trans ?_
  simp only [decodeWriteFrame, rowOfLine_lineNumber hr, hdrop]
  simp [hdata]

/-- The receiver reads a chunk of two or more lines back (30 R104, R105). -/
theorem decodeFrame_chunkFrame {rowData : Nat → List Byte} (hrow : ∀ r, r < 240 → (rowData r).length = 50)
    {r0 n : Nat} (hn : 2 ≤ n) (h : r0 + n ≤ 240) :
    decodeFrame (chunkFrame r0 n rowData) = .ok (.wireChunk r0 n) := by
  have hlen : (chunkBody rowData r0 n ++ [0x00#8]).length = 52 * n + 1 := by
    rw [List.length_append, length_chunkBody hrow h]; rfl
  have hread := readChunkLines_chunkBody hrow h [0x00#8]
  obtain ⟨tail, hhead⟩ : ∃ tail, chunkBody rowData r0 n ++ [0x00#8] = lineNumber r0 :: tail := by
    obtain ⟨m, rfl⟩ : ∃ m, n = m + 1 := ⟨n - 1, by omega⟩
    exact ⟨_, rfl⟩
  rw [hhead] at hlen hread
  rw [chunkFrame_eq, hhead, decodeFrame_write]
  have hlines : (52 * n + 1) / 52 = n := by omega
  simp only [decodeWriteFrame, rowOfLine_lineNumber (show r0 < 240 by omega), hlen, hlines, hread]
  rw [if_neg (by omega), if_pos (by omega), if_pos trivial]

/-- Settles O5: by the kinds of frame; a chunk of one line is `chunkFrame_one`, of more lines `decodeFrame_chunkFrame`. -/
theorem decodeOfEncodedFrame : Obligations.DecodeOfEncodedFrame := by
  intro i rowData bytes hwf hrow henc
  cases i with
  | wirePriming => cases henc; rfl
  | wireClear => cases henc; rfl
  | wireLine r =>
    cases henc
    have hr : r < 240 := of_decide_eq_true hwf
    exact decodeFrame_lineFrame (hrow r hr) hr
  | wireChunk r0 n =>
    cases henc
    obtain ⟨hn, hend⟩ : 1 ≤ n ∧ r0 + n ≤ 240 := by simpa [WellFormed, Instr.wellFormed] using hwf
    obtain rfl | hn := hn.eq_or_lt
    · rw [chunkFrame_one]
      exact decodeFrame_lineFrame (hrow r0 (by omega)) (by omega)
    · simp only [decodeFrame_chunkFrame hrow hn hend, if_neg (show n ≠ 1 by omega)]
  | _ => cases henc

/-! ## Wire frames, sent -/

theorem exec_wireLine (s : State) (r : Nat) :
    exec (.wireLine r) s =
      if r < 240 then .next (s.transmit (lineFrame r (fbRow s.fb r))) else .refused .noSuchFrame := rfl

theorem exec_wireChunk (s : State) (r0 n : Nat) :
    exec (.wireChunk r0 n) s =
      if 1 ≤ n ∧ n ≤ s.build.chunkLines ∧ r0 + n ≤ 240 then .next (s.transmit (chunkFrame r0 n (fbRow s.fb)))
      else .refused .noSuchFrame := rfl

/-- Settles O34: each row's meaning sends the frame; a chunk's lines are its rows laid out one after another. -/
theorem wireFramesAppendToLog : Obligations.WireFramesAppendToLog := by
  intro s
  refine ⟨rfl, rfl, fun r hr => ?_, fun r0 n hn hmax hend => ?_⟩
  · rw [exec_wireLine, if_pos hr]; rfl
  · rw [exec_wireChunk, if_pos ⟨hn, hmax, hend⟩, chunkFrame, List.flatMap_def]; rfl

/-! ## The end of a host command -/

theorem processTick_eq_ticked (s : State) : processTick s = ticked s := by
  unfold processTick ticked State.raise
  dsimp only
  split <;> split <;> rfl

/-- Completion writes LATCH, IRQ_STATUS and, on an error, STATUS.ERR (40 R136). -/
theorem completeHost_eq (e : ErrCode) (s : State) :
    completeHost e s =
      { s with
        latch := .empty
        irqStatus := s.irqStatus ||| (if e = .none then 0b000001#6 else 0b000011#6)
        err := if e = .none then s.err else e } := by
  rw [completeHost]
  split
  · rfl
  · have hbits : s.irqStatus ||| 1#6 <<< irqDone ||| 1#6 <<< irqErr = s.irqStatus ||| 0b000011#6 := BitVec.or_assoc ..
    simp only [State.raise, hbits]

/-- Once nothing is latched, a held tick is given up, and processed if the display is on (46 R318). -/
theorem servicePendingTick_of_idle {s : State} (hl : s.latch = .empty) :
    servicePendingTick s =
      if s.tickPend = true ∧ s.isOn = true then ticked { s with tickPend := false } else { s with tickPend := false } := by
  have hbusy : ({ s with tickPend := false } : State).busy = false := State.busy_eq_false.mpr hl
  rw [servicePendingTick]
  by_cases htick : s.tickPend = true
  · simp only [htick, hbusy, processTick_eq_ticked, if_true, Bool.not_false, Bool.and_true, true_and]
  · have hsame : { s with tickPend := false } = s := by rw [← Bool.eq_false_iff.mpr htick]
    rw [if_neg htick, if_neg fun h => htick h.1, hsame]

/-- Completion and the pending tick, while FATAL = 0, are what the statements call completed (40 R135). -/
theorem finishHost_eq_completed {e : ErrCode} {s : State} (hf : s.fatal = false) : finishHost e s = completed e s := by
  rw [finishHost, if_neg (by simp [hf]), completeHost_eq, servicePendingTick_of_idle rfl]
  rfl

/-- A host command that is ready answers its work completed, unless the work ends in FATAL (40 R135). -/
theorem runHost_eq_completed {s : State} {a : Snapshot} (h : Ready s a) {perform : Snapshot → State × ErrCode}
    (hf : (perform a).1.fatal = false) : runHost s perform = .next (completed (perform a).2 (perform a).1) := by
  obtain ⟨hs, v, hl⟩ := h
  rw [runHost_ready hs hl, finishHost_eq_completed hf]

/-- Settles O10: ILLEGAL's `Perform` leaves the state as it is and reports the code ILLEGAL. -/
theorem illegalOnlyReports : Obligations.IllegalOnlyReports :=
  fun _ _ _ h => runHost_eq_completed h h.1

/-! ## Stops by name -/

/-- A host command is run by one of the two forms of the engine step (40 R135). -/
theorem exec_command {i : Instr} (h : isCommand i = true) (s : State) :
    (∃ perform, exec i s = runHost s perform) ∨ ∃ perform, exec i s = runHostSrc s perform := by
  cases i with
  | drawImage => exact .inr ⟨_, rfl⟩
  | drawString => exact .inr ⟨_, rfl⟩
  | autoOff | wirePriming | wireChunk | wireLine | wireClear | keepaliveWrite | wakeTick => cases h
  | _ => exact .inl ⟨_, rfl⟩

theorem runHost_notLatched {s : State} (hf : s.fatal = false) (hl : ∀ v a, s.latch ≠ .host v a)
    (perform : Snapshot → State × ErrCode) : runHost s perform = .refused .notLatched := by
  obtain ⟨hf', -⟩ | ⟨-, -, he⟩ | ⟨v, a, -, hl', -⟩ := runHost_cases s perform
  · simp [hf] at hf'
  · exact he
  · exact absurd hl' (hl v a)

theorem runHostSrc_notLatched {s : State} (hf : s.fatal = false) (hl : ∀ v a, s.latch ≠ .host v a)
    (perform : Snapshot → Option (State × ErrCode)) : runHostSrc s perform = .refused .notLatched := by
  cases hlatch : s.latch with
  | host v a => exact absurd hlatch (hl v a)
  | empty => simp [runHostSrc, hf, hlatch]
  | autoOff => simp [runHostSrc, hf, hlatch]

/-- Settles O58: by the two forms of the engine step, AUTO_OFF's own test, and the ranges of the frames. -/
theorem stopsByName : Obligations.StopsByName := by
  intro s
  refine ⟨fun i hf hi hl => ?_, fun hf hl => ?_, fun r hr => ?_, fun r0 n h => ?_⟩
  · obtain ⟨perform, he⟩ | ⟨perform, he⟩ := exec_command hi s
    · rw [he, runHost_notLatched hf hl]
    · rw [he, runHostSrc_notLatched hf hl]
  · have hint : s.internal ≠ true := fun h => hl (State.internal_iff.mp h)
    simp [exec, execAutoOff, hf, hint]
  · rw [exec_wireLine, if_neg (by omega)]
  · rw [exec_wireChunk, if_neg (by omega)]

end Sys2Proof.Machine
end

section
/-! PROOFS. The command engine (spec 40): the step of each kind of event, the acceptance of a command, the engine step of
AUTO_OFF, the halt of FATAL, and the snapshot that isolates a latched command from the ARG registers. -/

namespace Sys2Proof.Machine

open Sys2Proof.Claims

/-! ## The step of an event, and the step with none to come (40 R130, R145) -/

theorem step_event {s : State} {e : Event} {rest : List Event} (h : s.agenda = e :: rest) :
    step s = takeEvent e { s with agenda := rest } := by
  simp [step, advance, h]

theorem step_noEvent {s : State} (h : s.agenda = []) :
    step s = if s.fatal then .fault .fatalHalt else engineStep s := by
  simp [step, advance, h]

theorem engineStep_host {s : State} {v : Word} {a : Snapshot} (hf : s.fatal = false) (hl : s.latch = .host v a) :
    engineStep s = exec (decode v) s := by
  simp [engineStep, hf, hl]

theorem engineStep_autoOff {s : State} (hf : s.fatal = false) (hl : s.latch = .autoOff) :
    engineStep s = exec .autoOff s := by
  simp [engineStep, hf, hl]

/-- While FATAL = 1, or with nothing latched, the engine step is not enabled (40 R130, 46 R317). -/
theorem engineStep_notEnabled {s : State} (h : s.fatal = true ∨ s.latch = .empty) : engineStep s = .next s := by
  unfold engineStep
  split
  · rfl
  · next hf => rw [h.resolve_left hf]

/-- A poll reads STATUS, and while BUSY = 1 puts an engine event and itself before the events to come (30 R107). -/
theorem pollStep_eq (s : State) :
    pollStep s =
      replied s (if s.latch = .empty then s.agenda else .engine :: .poll :: s.agenda) ⟨false, some (statusWord s)⟩ := by
  unfold pollStep
  by_cases hl : s.latch = .empty
  · rw [State.busy_eq_false.mpr hl, if_pos hl]
    rfl
  · rw [State.busy_of_latched hl, if_neg hl]
    rfl

/-- Settles O6: the engine step of a latched host command, alone or at its event. -/
theorem stepRunsLatchedWord : Obligations.StepRunsLatchedWord := by
  refine ⟨fun s v a h hf hl => ?_, fun s v a rest h hf hl => ?_⟩
  · rw [step_noEvent h, if_neg (by simp [hf]), engineStep_host hf hl]
  · exact (step_event h).trans (engineStep_host (s := { s with agenda := rest }) hf hl)

/-- Settles O7: the engine step of a latched AUTO_OFF, alone or at its event. -/
theorem stepRunsAutoOff : Obligations.StepRunsAutoOff := by
  refine ⟨fun s h hf hl => ?_, fun s rest h hf hl => ?_⟩
  · rw [step_noEvent h, if_neg (by simp [hf]), engineStep_autoOff hf hl]
  · exact (step_event h).trans (engineStep_autoOff (s := { s with agenda := rest }) hf hl)

/-- Settles O8: a tick event is WAKE_TICK by definition, and the register at 0x48 is KEEPALIVE. -/
theorem stepRunsTickAndKeepalive : Obligations.StepRunsTickAndKeepalive :=
  ⟨fun _ _ h => step_event h, fun _ _ _ h => step_writeReg h (by decide) (by decide)⟩

/-- Settles O59: one clause for each kind of step that runs no instruction. -/
theorem stepAroundInstructions : Obligations.StepAroundInstructions := by
  refine ⟨fun s rest h hoff => ?_, fun s h hf hl => ?_, fun s h hf => ?_, fun s rest f h => step_event h,
    fun s rest h => ?_⟩
  · exact (step_event h).trans (engineStep_notEnabled (s := { s with agenda := rest }) hoff)
  · rw [step_noEvent h, if_neg (by simp [hf]), engineStep_notEnabled (.inr hl)]
  · rw [step_noEvent h, if_pos hf]
  · exact (step_event h).trans (congrArg _ (pollStep_eq { s with agenda := rest }))

/-! ## The acceptance of a command (40 R131 to R134) -/

theorem writeCmd_of_fatal {s : State} (hf : s.fatal = true) (v : Word) : writeCmd v s = s := if_pos hf

theorem writeCmd_of_latched {s : State} (hf : s.fatal = false) (hl : s.latch ≠ .empty) (v : Word) :
    writeCmd v s = s.raise irqOvr := by
  simp [writeCmd, hf, State.busy_of_latched hl]

theorem writeCmd_of_idle {s : State} (hf : s.fatal = false) (hl : s.latch = .empty) (v : Word) :
    writeCmd v s = s.accept v := by
  simp [writeCmd, hf, State.busy_eq_false.mpr hl]

/-- Settles O43: a CMD write is one of three, told apart by FATAL and BUSY. -/
theorem cmdWriteAcceptsOrDrops : Obligations.CmdWriteAcceptsOrDrops := by
  intro s rest v h
  refine (step_writeReg h (by decide) (by decide)).trans (congrArg _ ?_)
  dsimp only
  split
  · next hf => exact congrArg (State.reply okayWrite) (writeCmd_of_fatal (s := { s with agenda := rest }) hf v)
  · next hf =>
    have hf : s.fatal = false := Bool.eq_false_iff.mpr hf
    split
    · next hl =>
      exact congrArg (State.reply okayWrite) (writeCmd_of_latched (s := { s with agenda := rest }) hf hl v)
    · next hl =>
      have hl : s.latch = .empty := not_not.mp hl
      exact congrArg (State.reply okayWrite) (writeCmd_of_idle (s := { s with agenda := rest }) hf hl v)

/-! ## PowerOffSeq and AUTO_OFF (46 R304, R310) -/

/-- PowerOffSeq halted by a failure drawn at one of its points (46 R304, R316). -/
theorem powerOffSeq_halted {s : State} (h : failPoint s < 5) (clr : Bool) :
    powerOffSeq clr s = { s with
      fatal := true
      txLog := s.txLog ++ (if failPoint s = 0 then [] else if clr then [clearFrame] else [])
      pinLog := s.pinLog ++
        ([(.dispEn, false), (.extcominEn, false), (.boostEn, false), (.wakeArm, false)] : List (Pin × Bool)).take
          (failPoint s - 1)
      pins := { boostEn := s.pins.boostEn && decide (failPoint s < 4)
                dispEn := s.pins.dispEn && decide (failPoint s < 2)
                extcominEn := s.pins.extcominEn && decide (failPoint s < 3)
                wakeArm := s.pins.wakeArm } } := by
  cases hp : s.periph with
  | none => simp [failPoint, hp] at h
  | some k =>
    cases clr <;> fin_cases k <;>
      simp [powerOffSeq, powerStage, failPoint, hp, State.setPin, State.transmit, State.halt]

/-- PowerOffSeq run to its end (46 R304). -/
theorem powerOffSeq_completed {s : State} (h : ¬ failPoint s < 5) (clr : Bool) :
    powerOffSeq clr s = { s with
      txLog := s.txLog ++ (if clr then [clearFrame] else [])
      pinLog := s.pinLog ++ [(.dispEn, false), (.extcominEn, false), (.boostEn, false), (.wakeArm, false)]
      pins := ⟨false, false, false, false⟩
      isOn := false
      tickPend := false } := by
  cases hp : s.periph with
  | none => cases clr <;> simp [powerOffSeq, powerStage, hp, State.setPin, State.transmit]
  | some k => exact absurd (by simp [failPoint, hp]) h

/-- AUTO_OFF that is latched runs (46 R310). -/
theorem exec_autoOff_ready {s : State} (hf : s.fatal = false) (hl : s.latch = .autoOff) :
    exec .autoOff s = .next (finishInternal (powerOffSeq true s)) := by
  simp [exec, execAutoOff, hf, State.internal_iff.mpr hl]

theorem exec_autoOff_next {s t : State} (h : exec .autoOff s = .next t) :
    s.fatal = false ∧ s.latch = .autoOff ∧ t = finishInternal (powerOffSeq true s) := by
  simp only [exec, execAutoOff] at h
  split at h
  · cases h
  · next hf =>
    split at h
    · next hl => cases h; exact ⟨Bool.eq_false_iff.mpr hf, State.internal_iff.mp hl, rfl⟩
    · cases h

/-- After a peripheral failure there is no completion of AUTO_OFF either (46 R316). -/
theorem finishInternal_of_fatal {s : State} (hf : s.fatal = true) : finishInternal s = s := by
  simp [finishInternal, hf]

/-- With no tick held, completion is all there is at the end of AUTO_OFF (40 R135, R136). -/
theorem finishInternal_noTick {s : State} (hf : s.fatal = false) (ht : s.tickPend = false) :
    finishInternal s = completeInternal s := by
  simp [finishInternal, servicePendingTick, hf, ht]

/-- Settles O37: by the two ends of PowerOffSeq; the first is not completed, the second with AUTOOFF alone. -/
theorem autoOffSequence : Obligations.AutoOffSequence := by
  intro s hf hl
  dsimp only
  rw [exec_autoOff_ready hf hl]
  split
  · next hk =>
    rw [powerOffSeq_halted hk, finishInternal_of_fatal rfl]
    rfl
  · next hk =>
    rw [powerOffSeq_completed hk]
    refine congrArg _ (finishInternal_noTick ?_ rfl)
    exact hf

/-! ## FATAL (46 R316, R317, 60 R349) -/

/-- The fields that stand still while FATAL = 1. -/
def State.held (s : State) :=
  (s.fatal, s.fb, s.src, s.latch, s.pins, s.pinLog, s.txLog, s.isOn, s.idle, s.result, s.lastCmd, s.tickPend, s.err)

theorem onWakeTick_of_fatal {s : State} (hf : s.fatal = true) : onWakeTick s = s := by
  simp [onWakeTick, hf]

/-- No register write reaches a held field: CMD and KEEPALIVE are ignored, the others write elsewhere. -/
theorem writeReg_held {s : State} (hf : s.fatal = true) (r : Reg) (v : Word) : (writeReg r v s).held = s.held := by
  cases r with
  | cmd => simp [writeReg, writeCmd, hf]
  | keepalive => simp [writeReg, keepAlive, hf]
  | _ => rfl

theorem hostWrite_held {s : State} (hf : s.fatal = true) (hl : s.latch ≠ .empty) (off : Nat) (size : Size) (v : Word) :
    (hostWrite off size v s).held = s.held := by
  unfold hostWrite
  split
  · split
    · exact writeReg_held hf _ v
    · rfl
  · split
    · rw [writeSrc, State.busy_of_latched hl]
      rfl
    · rfl
  · rfl
  · rfl

theorem hostAccess_held {s : State} (hf : s.fatal = true) (hl : s.latch ≠ .empty) (a : Access) :
    (hostAccess a s).held = s.held := by
  cases a with
  | read off size =>
    obtain ⟨r, d, h⟩ := hostRead_eq off.toNat size s
    rw [hostAccess, h]
    rfl
  | write off size v => exact hostWrite_held hf hl _ size v

theorem takeEvent_held {s t : State} {e : Event} (hf : s.fatal = true) (hl : s.latch ≠ .empty) (he : e ≠ .reset)
    (h : takeEvent e s = .next t) : t.held = s.held := by
  cases e with
  | access a => cases h; exact hostAccess_held hf hl a
  | tick => cases h; rw [onWakeTick_of_fatal hf]
  | engine =>
    cases (engineStep_notEnabled (.inl hf)).symm.trans h
    rfl
  | poll =>
    cases h
    rw [pollStep_eq]
    rfl
  | reset => exact absurd rfl he
  | periph f => cases h; rfl

/-- Settles O42: every event but reset keeps the held fields, and with none to come there is no next state. -/
theorem fatalLeftOnlyByReset : Obligations.FatalLeftOnlyByReset := by
  intro s t hf hl h hreset
  have hheld : t.held = s.held := by
    cases ha : s.agenda with
    | nil => rw [step_noEvent ha, if_pos hf] at h; cases h
    | cons e rest =>
      rw [step_event ha] at h
      exact takeEvent_held (s := { s with agenda := rest }) hf hl (fun he => hreset (by rw [ha, he]; rfl)) h
  simpa [State.held, hf] using hheld

/-! ## The snapshot isolates the command (40 R132, 70 R390) -/

/-- `s` with the ARG registers of `u`. -/
def State.withArgsOf (u s : State) : State :=
  { s with
    argX := u.argX
    argY := u.argY
    argW := u.argW
    argH := u.argH
    argSrc := u.argSrc
    argData := u.argData
    argMode := u.argMode
    argFont := u.argFont }

/-- An ARG register write depends on the ARG registers only, and changes nothing else. -/
theorem writeReg_withArgsOf {r : Reg} (hr : isArg r = true) (w : Word) (u s : State) :
    writeReg r w (u.withArgsOf s) = (writeReg r w u).withArgsOf s := by
  cases r with
  | argX | argY | argW | argH | argSrc | argData | argMode | argFont => rfl
  | _ => cases hr

/-- `f` neither reads nor writes an ARG register. -/
def ArgBlind (f : State → State) : Prop := ∀ u s : State, f (u.withArgsOf s) = u.withArgsOf (f s)

theorem ArgBlind.comp {f g : State → State} (hf : ArgBlind f) (hg : ArgBlind g) : ArgBlind fun s => f (g s) :=
  fun u s => (congrArg f (hg u s)).trans (hf u (g s))

theorem ArgBlind.ite {c : State → Prop} [DecidablePred c] {f g : State → State}
    (hc : ∀ u s : State, c (u.withArgsOf s) ↔ c s) (hf : ArgBlind f) (hg : ArgBlind g) :
    ArgBlind fun s => if c s then f s else g s := by
  intro u s
  dsimp only
  rw [if_congr (hc u s) (hf u s) (hg u s), apply_ite u.withArgsOf]

theorem setPin_argBlind (p : Pin) (v : Bool) : ArgBlind (State.setPin p v) := fun _ _ => rfl

theorem powerStage_argBlind {k : Nat} {act rest : State → State} (ha : ArgBlind act) (hr : ArgBlind rest) :
    ArgBlind (powerStage k act rest) :=
  .ite (fun _ _ => .rfl) (fun _ _ => rfl) (hr.comp ha)

theorem powerOnSeq_argBlind : ArgBlind powerOnSeq :=
  powerStage_argBlind (setPin_argBlind _ _) (powerStage_argBlind (setPin_argBlind _ _)
    (powerStage_argBlind (setPin_argBlind _ _) (powerStage_argBlind (setPin_argBlind _ _) fun _ _ => rfl)))

theorem powerOffSeq_argBlind (clr : Bool) : ArgBlind (powerOffSeq clr) :=
  powerStage_argBlind (fun _ _ => by cases clr <;> rfl) (powerStage_argBlind (setPin_argBlind _ _)
    (powerStage_argBlind (setPin_argBlind _ _) (powerStage_argBlind (setPin_argBlind _ _)
      (powerStage_argBlind (setPin_argBlind _ _) fun _ _ => rfl))))

theorem processTick_argBlind : ArgBlind processTick := fun _ _ => by
  rw [processTick_eq_ticked, processTick_eq_ticked]; rfl

theorem servicePendingTick_argBlind : ArgBlind servicePendingTick :=
  .ite (fun _ _ => .rfl) (.ite (fun _ _ => .rfl) (processTick_argBlind.comp fun _ _ => rfl) fun _ _ => rfl)
    fun _ _ => rfl

theorem completeHost_argBlind (e : ErrCode) : ArgBlind (completeHost e) := fun _ _ => by
  rw [completeHost_eq, completeHost_eq]; rfl

theorem finishHost_argBlind (e : ErrCode) : ArgBlind (finishHost e) :=
  .ite (fun _ _ => .rfl) (fun _ _ => rfl) (servicePendingTick_argBlind.comp (completeHost_argBlind e))

theorem finishInternal_argBlind : ArgBlind finishInternal :=
  .ite (fun _ _ => .rfl) (fun _ _ => rfl) (servicePendingTick_argBlind.comp (g := completeInternal) fun _ _ => rfl)

theorem onWakeTick_argBlind : ArgBlind onWakeTick :=
  .ite (fun _ _ => .rfl) (fun _ _ => rfl) (.ite (fun _ _ => .rfl) (fun _ _ => rfl)
    (.ite (fun _ _ => .rfl) (.ite (fun _ _ => .rfl) (fun _ _ => rfl) fun _ _ => rfl) processTick_argBlind))

theorem keepAlive_argBlind : ArgBlind keepAlive := .ite (fun _ _ => .rfl) (fun _ _ => rfl) fun _ _ => rfl

/-- A `Perform` that is blind to the ARG registers makes a blind engine step (40 R132, R135). -/
theorem runHost_withArgsOf {s t u : State} {perform perform' : Snapshot → State × ErrCode}
    (h : runHost s perform = .next t) (hp : ∀ a, perform' a = (u.withArgsOf (perform a).1, (perform a).2)) :
    runHost (u.withArgsOf s) perform' = .next (u.withArgsOf t) := by
  obtain ⟨v, a, hf, hl, rfl⟩ := runHost_next h
  rw [runHost_ready (s := u.withArgsOf s) hf hl, hp, finishHost_argBlind]

theorem runHostSrc_withArgsOf {s t u : State} {perform perform' : Snapshot → Option (State × ErrCode)}
    (h : runHostSrc s perform = .next t)
    (hp : ∀ a, perform' a = (perform a).map fun r => (u.withArgsOf r.1, r.2)) :
    runHostSrc (u.withArgsOf s) perform' = .next (u.withArgsOf t) := by
  obtain ⟨v, a, r, hf, hl, hr, rfl⟩ := runHostSrc_next h
  rw [runHostSrc_ready (s := u.withArgsOf s) hf hl, hp, hr, ← finishHost_argBlind]
  rfl

@[simp] theorem State.withArgsOf_fb (u s : State) : (u.withArgsOf s).fb = s.fb := rfl
@[simp] theorem State.withArgsOf_src (u s : State) : (u.withArgsOf s).src = s.src := rfl
@[simp] theorem State.withArgsOf_isOn (u s : State) : (u.withArgsOf s).isOn = s.isOn := rfl
@[simp] theorem State.withArgsOf_build (u s : State) : (u.withArgsOf s).build = s.build := rfl

theorem drawImage_withArgsOf (u s : State) (a : Snapshot) :
    drawImage (u.withArgsOf s) a = (drawImage s a).map fun r => (u.withArgsOf r.1, r.2) := by
  simp only [drawImage, State.withArgsOf_src, apply_ite (Option.map _)]
  rfl

theorem drawString_withArgsOf (u s : State) (a : Snapshot) :
    drawString (u.withArgsOf s) a = (drawString s a).map fun r => (u.withArgsOf r.1, r.2) := by
  unfold drawString
  simp only [State.withArgsOf_src, State.withArgsOf_fb, State.withArgsOf_build]
  split
  · rfl
  · split
    · rfl
    · split
      · rfl
      · split <;> rfl

/-- No instruction reads or writes an ARG register. -/
theorem exec_withArgsOf {i : Instr} {s t : State} (h : exec i s = .next t) (u : State) :
    exec i (u.withArgsOf s) = .next (u.withArgsOf t) := by
  cases i with
  | nop | clear | refresh | illegal => exact runHost_withArgsOf h fun _ => rfl
  | invert | testPattern => exact runHost_withArgsOf h fun _ => by dsimp only [State.withArgsOf]
  | writeLine =>
    refine runHost_withArgsOf h fun a => ?_
    split <;> rfl
  | fill | fillRect =>
    refine runHost_withArgsOf h fun a => ?_
    split <;> dsimp only [State.withArgsOf]
  | bitblt24 =>
    refine runHost_withArgsOf h fun a => ?_
    split
    · rfl
    · split <;> dsimp only [State.withArgsOf]
  | drawImage => exact runHostSrc_withArgsOf h (drawImage_withArgsOf u s)
  | drawString => exact runHostSrc_withArgsOf h (drawString_withArgsOf u s)
  | drawChar =>
    refine runHost_withArgsOf h fun a => ?_
    simp only [State.withArgsOf_fb, State.withArgsOf_build]
    split
    · rfl
    · split
      · rfl
      · split <;> rfl
  | powerOn => exact runHost_withArgsOf h fun _ => congrArg (·, _) (powerOnSeq_argBlind u s)
  | powerOff =>
    refine runHost_withArgsOf h fun a => ?_
    simp only [State.withArgsOf_isOn, powerOffSeq_argBlind _ u s, apply_ite u.withArgsOf]
  | autoOff =>
    obtain ⟨hf, hl, rfl⟩ := exec_autoOff_next h
    rw [exec_autoOff_ready (s := u.withArgsOf s) hf hl, powerOffSeq_argBlind, finishInternal_argBlind]
  | wirePriming | wireClear => cases h; rfl
  | wireChunk r0 n =>
    rw [exec_wireChunk] at h ⊢
    split at h
    · next hc => cases h; exact if_pos hc
    · cases h
  | wireLine r =>
    rw [exec_wireLine] at h ⊢
    split at h
    · next hc => cases h; exact if_pos hc
    · cases h
  | keepaliveWrite v =>
    cases h
    exact congrArg (fun s => Host.Outcome.next (State.reply _ s)) (keepAlive_argBlind u s)
  | wakeTick =>
    cases h
    exact congrArg Host.Outcome.next (onWakeTick_argBlind u s)

/-- Settles O57: the write gives `s` the ARG registers of the written state, to which the command is blind, and the
command leaves those of `s`. -/
theorem snapshotIsolatesCommand : Obligations.SnapshotIsolatesCommand := by
  intro r w v a s t hr _ h
  have hargs : t = s.withArgsOf t := Host.Outcome.next.inj (h.symm.trans (exec_withArgsOf h s))
  calc exec (decode v) (writeReg r w s)
      = exec (decode v) ((writeReg r w s).withArgsOf s) := congrArg _ (writeReg_withArgsOf hr w s s)
    _ = .next ((writeReg r w s).withArgsOf t) := exec_withArgsOf h _
    _ = .next (writeReg r w t) := by rw [← writeReg_withArgsOf hr, ← hargs]

end Sys2Proof.Machine
end

section
/-! PROOFS. What a blit does to the screen (41 R161 to R163): the loops over an image, pixel by pixel, and the round trip
of an image drawn with SET and then with EMPTY. -/

namespace Sys2Proof.Machine

open Sys2Proof.Claims

/-! ## Loops over one axis -/

theorem within_iff {lo : Int} {n p : Nat} : within lo n p = true ↔ lo ≤ p ∧ (p : Int) < lo + n := by
  simp [within]

@[simp] theorem within_zero (lo : Int) (p : Nat) : within lo 0 p = false := by
  rw [Bool.eq_false_iff, ne_eq, within_iff]
  omega

/-- One position more at the end of an axis. -/
theorem within_succ {lo : Int} {n p : Nat} : within lo (n + 1) p = true ↔ within lo n p = true ∨ lo + n = p := by
  rw [within_iff, within_iff]
  omega

/-- A loop over the positions lo, lo+1, ..., lo+n-1 of which only the pass at `p` changes what `g` reads: that pass comes
once if `p` is among them, and not at all otherwise. -/
theorem foldl_axis {γ : Type} (g : Memory → γ) (f : Memory → Nat → Memory) (k : Nat → γ → γ) {lo : Int} {p : Nat}
    (hf : ∀ m j, g (f m j) = if lo + j = p then k j (g m) else g m) (n : Nat) (m : Memory) :
    g ((List.range n).foldl f m) = if within lo n p then k ((p : Int) - lo).toNat (g m) else g m := by
  induction n with
  | zero => simp
  | succ n ih =>
    rw [List.range_succ, List.foldl_append, List.foldl_cons, List.foldl_nil, hf, ih]
    by_cases hlast : lo + n = p
    · have hbefore : ¬ within lo n p = true := by rw [within_iff]; omega
      have hn : ((p : Int) - lo).toNat = n := by omega
      rw [if_pos hlast, if_neg hbefore, if_pos (within_succ.mpr (.inr hlast)), hn]
    · rw [if_neg hlast, if_congr (within_succ.trans (or_iff_left hlast)) rfl rfl]

/-! ## The pixels of a blit -/

/-- The statements' pixel is the one GetPixel reads (40 R141). -/
theorem pix_eq_getPixel (m : Memory) (px py : Nat) : pix m px py = getPixel m px py := rfl

/-- What Apply does to each pixel of the screen (40 R143). -/
theorem pix_applyPixel {px py : Nat} (hx : px < 400) (hy : py < 240) (op : PixOp) (x y : Int) (b : Bool) (m : Memory) :
    pix (applyPixel op x y b m) px py =
      if x = px then (if y = py then combine op (pix m px py) b else pix m px py) else pix m px py := by
  have hon : OnScreen (px : Int) (py : Int) :=
    ⟨px.cast_nonneg, Int.ofNat_lt.mpr hx, py.cast_nonneg, Int.ofNat_lt.mpr hy⟩
  rw [pix_eq_getPixel, getPixel_applyPixel hon, ite_and, ← pix_eq_getPixel]

/-- What Apply along `w` pixels of row `y` from column `x` on does to each pixel of the screen; the pass at column `px` is
the one that counts. -/
theorem pix_applyRow {px py : Nat} (hx : px < 400) (hy : py < 240) (op : PixOp) (x y : Int) (bit : Nat → Bool) (w : Nat)
    (m : Memory) :
    pix ((List.range w).foldl (fun m (dx : Nat) => applyPixel op (x + dx) y (bit dx) m) m) px py =
      if y = py then
        (if within x w px then combine op (pix m px py) (bit ((px : Int) - x).toNat) else pix m px py)
      else pix m px py := by
  rw [foldl_axis (pix · px py) _ (fun dx d => if y = py then combine op d (bit dx) else d)
    (fun m dx => pix_applyPixel hx hy op (x + dx) y (bit dx) m)]
  split_ifs <;> rfl

/-- OR for SET and AND-NOT for EMPTY make a pixel under a set bit the colour, and leave the others (41 R161). -/
theorem combine_blit (set d b : Bool) : combine (if set then .or else .andn) d b = if b then set else d := by
  cases set <;> cases b <;> simp [combine]

/-- What a blit does to each pixel of the screen (41 R161, R163); of its rows, row `py` is the one that counts. -/
theorem pix_blitImage {px py : Nat} (hx : px < 400) (hy : py < 240) (byteAt : Nat → Byte) (w h : Nat) (x y : Int)
    (set lsb : Bool) (m : Memory) :
    pix (blitImage byteAt w h x y set lsb m) px py =
      if within x w px && within y h py && imageBit byteAt w lsb ((px : Int) - x).toNat ((py : Int) - y).toNat
      then set else pix m px py := by
  have hrows := foldl_axis (pix · px py) _
    (fun dy d => if within x w px then
      combine (if set then .or else .andn) d (imageBit byteAt w lsb ((px : Int) - x).toNat dy) else d)
    (fun m dy => pix_applyRow hx hy _ x (y + dy) (imageBit byteAt w lsb · dy) w m) h m
  refine hrows.trans ?_
  simp only [combine_blit]
  cases within x w px <;> cases within y h py <;> simp

/-- A blit does to the screen what the statements say, and reaches no byte past FB (41 R161, R163, 40 R147). -/
theorem blitted_blitImage (byteAt : Nat → Byte) (w h : Nat) (x y : Int) (set lsb : Bool) (m : Memory) :
    Blitted m (blitImage byteAt w h x y set lsb m) byteAt w h x y set lsb :=
  ⟨fun _ _ hx hy => pix_blitImage hx hy byteAt w h x y set lsb m, fun n hn =>
    blitImage_keeps (fun k => fbRead k n = fbRead m n)
      (fun _ _ _ _ _ hk => (fbRead_applyPixel_outside hn).trans hk) byteAt w h x y set lsb m rfl⟩

/-- An image without a pixel draws nothing. -/
theorem blitted_of_empty {w h : Nat} (hsize : w = 0 ∨ h = 0) (m : Memory) (byteAt : Nat → Byte) (x y : Int)
    (set lsb : Bool) : Blitted m m byteAt w h x y set lsb := by
  refine ⟨fun px py _ _ => ?_, fun _ _ => rfl⟩
  rcases hsize with rfl | rfl <;> simp

/-- An image drawn with SET and then with EMPTY leaves every pixel as it was, if those under its set bits were 0
(41 R167): both blits change the same pixels, and the second makes them 0 again. -/
theorem pix_setThenEmpty {m m₁ m₂ : Memory} {byteAt : Nat → Byte} {w h : Nat} {x y : Int} {lsb : Bool}
    (hset : Blitted m m₁ byteAt w h x y true lsb) (hempty : Blitted m₁ m₂ byteAt w h x y false lsb)
    (hclear : ∀ px py : Nat, px < 400 → py < 240 → within x w px = true → within y h py = true →
      imageBit byteAt w lsb ((px : Int) - x).toNat ((py : Int) - y).toNat = true → pix m px py = false)
    {px py : Nat} (hx : px < 400) (hy : py < 240) : pix m₂ px py = pix m px py := by
  rw [hempty.1 px py hx hy, hset.1 px py hx hy]
  split
  · next hbit =>
    simp only [Bool.and_eq_true] at hbit
    obtain ⟨⟨hwx, hwy⟩, hbit⟩ := hbit
    exact (hclear px py hx hy hwx hwy hbit).symm
  · rfl

end Sys2Proof.Machine
end

section
/-! PROOFS. DRAW_IMAGE (spec 41): what its `Perform` leaves in each of its branches, and the statements about it; and the
string whose next byte is unwritten. -/

namespace Sys2Proof.Machine

open Sys2Proof.Claims

/-! ## The engine step of a command that reads SRC -/

/-- A command that reads SRC and is ready answers its work completed (40 R135). -/
theorem runHostSrc_eq_completed {s : State} {a : Snapshot} (h : Ready s a)
    {perform : Snapshot → Option (State × ErrCode)} {r : State × ErrCode} (hp : perform a = some r)
    (hf : r.1.fatal = false) : runHostSrc s perform = .next (completed r.2 r.1) := by
  obtain ⟨hs, v, hl⟩ := h
  rw [runHostSrc_ready hs hl, hp, ← finishHost_eq_completed hf]

/-- A command that is ready and meets an unwritten byte of SRC is the fault (41 R168). -/
theorem runHostSrc_unwritten {s : State} {a : Snapshot} (h : Ready s a)
    {perform : Snapshot → Option (State × ErrCode)} (hp : perform a = none) :
    runHostSrc s perform = .fault .unwrittenSource := by
  obtain ⟨hs, v, hl⟩ := h
  rw [runHostSrc_ready hs hl, hp]

/-- The next state of a command that reads SRC and is ready is its work's, completed. -/
theorem runHostSrc_next_of_ready {s t : State} {a : Snapshot} (h : Ready s a)
    {perform : Snapshot → Option (State × ErrCode)} (ht : runHostSrc s perform = .next t) :
    ∃ r, perform a = some r ∧ t = finishHost r.2 r.1 := by
  obtain ⟨-, v, hl⟩ := h
  obtain ⟨v', a', r, -, hl', hp, ht⟩ := runHostSrc_next ht
  obtain ⟨-, rfl⟩ := Latch.host.inj (hl.symm.trans hl')
  exact ⟨r, hp, ht⟩

/-! ## The branches of DRAW_IMAGE (41 R160) -/

theorem Snapshot.twoColor_iff {a : Snapshot} : a.twoColor = true ↔ a.color = 0#2 ∨ a.color = 1#2 := by
  simp [Snapshot.twoColor]

theorem Snapshot.twoColor_eq_false {a : Snapshot} (h : a.color = 2#2 ∨ a.color = 3#2) : a.twoColor = false := by
  rcases h with h | h <;> simp [Snapshot.twoColor, h]

theorem srcWritten_iff {m : Memory} {base n : Nat} :
    srcWritten m base n = true ↔ ∀ i, i < n → srcRead m (base + i) ≠ none := by
  simp [srcWritten, Option.isSome_iff_ne_none]

theorem drawImage_badColor {s : State} {a : Snapshot} (hc : a.twoColor = false) :
    drawImage s a = some (s, .badArg) := if_pos hc

theorem drawImage_empty {s : State} {a : Snapshot} (hc : a.twoColor = true) (hsize : a.wNat = 0 ∨ a.hNat = 0) :
    drawImage s a = some (s, .none) := by
  rw [drawImage, if_neg (by simp [hc]), if_pos hsize]

theorem drawImage_srcRange {s : State} {a : Snapshot} (hc : a.twoColor = true) (hw : 0 < a.wNat) (hh : 0 < a.hNat)
    (hsrc : 16384 < a.srcNat + strideOf a.wNat * a.hNat) : drawImage s a = some (s, .srcRange) := by
  rw [drawImage, if_neg (by simp [hc]), if_neg (by omega), if_pos hsrc]

/-- An image that is all in SRC and all written is blitted (41 R161). -/
theorem drawImage_drawn {s : State} {a : Snapshot} (hc : a.twoColor = true) (hw : 0 < a.wNat) (hh : 0 < a.hNat)
    (hsrc : a.srcNat + strideOf a.wNat * a.hNat ≤ 16384)
    (hwritten : srcWritten s.src a.srcNat (strideOf a.wNat * a.hNat) = true) :
    drawImage s a = some ({ s with
      fb := blitImage (fun i => srcByte s.src (a.srcNat + i)) a.wNat a.hNat a.xInt a.yInt a.isSet a.order s.fb },
      .none) := by
  rw [drawImage, if_neg (by simp [hc]), if_neg (by omega), if_neg (Nat.not_lt.mpr hsrc), if_pos hwritten]

/-- An image in SRC with an unwritten byte gives nothing (41 R168). -/
theorem drawImage_unwritten {s : State} {a : Snapshot} (hc : a.twoColor = true) (hw : 0 < a.wNat) (hh : 0 < a.hNat)
    (hsrc : a.srcNat + strideOf a.wNat * a.hNat ≤ 16384)
    (hwritten : srcWritten s.src a.srcNat (strideOf a.wNat * a.hNat) ≠ true) : drawImage s a = none := by
  rw [drawImage, if_neg (by simp [hc]), if_neg (by omega), if_neg (Nat.not_lt.mpr hsrc), if_neg hwritten]

/-- Settles O17: the image in SRC is blitted. -/
theorem drawImageSetsImagePixels : Obligations.DrawImageSetsImagePixels := by
  intro s a h hc hw hh hsrc hwritten
  have hdraw := drawImage_drawn (Snapshot.twoColor_iff.mpr hc) hw hh hsrc (srcWritten_iff.mpr hwritten)
  exact ⟨_, runHostSrc_eq_completed h hdraw h.1, blitted_blitImage _ _ _ _ _ _ _ _⟩

/-- Settles O18: one branch of `drawImage` for each check. -/
theorem drawImageRefusals : Obligations.DrawImageRefusals := by
  refine fun s a h => ⟨fun hc => ?_, fun hc => ⟨fun hsize => ?_, fun hw hh hsrc => ?_⟩⟩
  · exact runHostSrc_eq_completed h (drawImage_badColor (Snapshot.twoColor_eq_false hc)) h.1
  · exact runHostSrc_eq_completed h (drawImage_empty (Snapshot.twoColor_iff.mpr hc) hsize) h.1
  · exact runHostSrc_eq_completed h (drawImage_srcRange (Snapshot.twoColor_iff.mpr hc) hw hh hsrc) h.1

/-- Settles O19: an image with an unwritten byte is not all written. -/
theorem drawImageUnwrittenFaults : Obligations.DrawImageUnwrittenFaults := by
  intro s a i h hc hw hh hsrc hi hnone
  exact runHostSrc_unwritten h (drawImage_unwritten (Snapshot.twoColor_iff.mpr hc) hw hh hsrc
    fun hwritten => srcWritten_iff.mp hwritten i hi hnone)

/-! ## SET, then EMPTY (41 R167) -/

/-- DRAW_IMAGE with a legal colour that answers a next state leaves FB, if the image ends past SRC, or has drawn it. -/
theorem drawImage_next_fb {s t : State} {a : Snapshot} (h : Ready s a) (hc : a.twoColor = true)
    (ht : exec .drawImage s = .next t) :
    (16384 < a.srcNat + strideOf a.wNat * a.hNat → t.fb = s.fb) ∧
    (a.srcNat + strideOf a.wNat * a.hNat ≤ 16384 →
      Blitted s.fb t.fb (fun i => srcByte s.src (a.srcNat + i)) a.wNat a.hNat a.xInt a.yInt a.isSet a.order) := by
  obtain ⟨r, hr, rfl⟩ := runHostSrc_next_of_ready h ht
  rw [finishHost_fb]
  by_cases hsize : a.wNat = 0 ∨ a.hNat = 0
  · obtain rfl := Option.some.inj ((drawImage_empty hc hsize).symm.trans hr)
    exact ⟨fun _ => rfl, fun _ => blitted_of_empty hsize _ _ _ _ _ _⟩
  · obtain ⟨hw, hh⟩ : 0 < a.wNat ∧ 0 < a.hNat := by omega
    refine ⟨fun hsrc => ?_, fun hsrc => ?_⟩
    · obtain rfl := Option.some.inj ((drawImage_srcRange hc hw hh hsrc).symm.trans hr)
      rfl
    · by_cases hwritten : srcWritten s.src a.srcNat (strideOf a.wNat * a.hNat) = true
      · obtain rfl := Option.some.inj ((drawImage_drawn hc hw hh hsrc hwritten).symm.trans hr)
        dsimp only
        exact blitted_blitImage _ _ _ _ _ _ _ _
      · cases (drawImage_unwritten hc hw hh hsrc hwritten).symm.trans hr

/-- Settles O20: the two images lie alike in SRC, so both are drawn and `pix_setThenEmpty` applies, or neither. -/
theorem imageSetThenEmptyRestores : Obligations.ImageSetThenEmptyRestores := by
  intro s t u v a b hs hcolor ht hu hb hfb hsrc hv hclear px py hx hy
  subst hb
  obtain ⟨hsetOut, hsetIn⟩ := drawImage_next_fb hs (Snapshot.twoColor_iff.mpr (.inr hcolor)) ht
  obtain ⟨hemptyOut, hemptyIn⟩ := drawImage_next_fb hu (Snapshot.twoColor_iff.mpr (.inl rfl)) hv
  have hset : a.isSet = true := by simp [Snapshot.isSet, hcolor]
  rw [hfb, hsrc] at hemptyIn
  rw [hset] at hsetIn
  rcases Nat.lt_or_ge 16384 (a.srcNat + strideOf a.wNat * a.hNat) with hout | hin
  · rw [hemptyOut hout, hfb, hsetOut hout]
  · exact pix_setThenEmpty (hsetIn hin) (hemptyIn hin) hclear hx hy

/-! ## A string whose next byte is unwritten (43 R213, 41 R168) -/

theorem fontOf_eq_fontAt (b : Build) (id : Nat) : fontOf b id = fontAt b id := by
  rw [fontOf, fontAt, List.getElem?_take, Build.numFonts]
  by_cases hid : id < 255
  · by_cases hlen : id < b.fonts.length <;> simp [hid, hlen]
  · simp [hid]

theorem ceil8_eq_up8 (v : Int) : ceil8 v = up8 v := by
  unfold ceil8 up8
  omega

/-- Still on screen and with bytes of SRC left, the string loop stops without a result at an unwritten byte. -/
theorem stringLoop_unwritten {src : Memory} {left p : Nat} {cur : Int} (hleft : 0 < left) (hcol : ceil8 cur < 400)
    (hnone : srcRead src p = none) (f : Font) (y : Int) (set : Bool) (m : Memory) :
    stringLoop f src y set left p cur m = none := by
  obtain ⟨left, rfl⟩ := Nat.exists_eq_succ_of_ne_zero hleft.ne'
  have hcol : ¬ (Config.width : Int) ≤ ceil8 cur := Int.not_le.mpr hcol
  rw [stringLoop, if_neg hcol, hnone]

theorem drawString_unwritten {s : State} {a : Snapshot} {f : Font} (hc : a.twoColor = true)
    (hfont : fontOf s.build a.fontId = some f) (hsrc : a.srcNat < Config.srcSize) (hcol : ceil8 a.xInt < 400)
    (hnone : srcRead s.src a.srcNat = none) : drawString s a = none := by
  rw [drawString, if_neg (by simp [hc]), hfont]
  dsimp only
  rw [if_neg (Nat.not_le.mpr hsrc), stringLoop_unwritten (Nat.sub_pos_of_lt hsrc) hcol hnone]

/-- Settles O29: the string's first pass reads the unwritten byte. -/
theorem drawStringUnwrittenFaults : Obligations.DrawStringUnwrittenFaults := by
  intro s a h hc hfont hsrc hcol hnone
  obtain ⟨f, hf⟩ := Option.ne_none_iff_exists'.mp hfont
  exact runHostSrc_unwritten h (drawString_unwritten (Snapshot.twoColor_iff.mpr hc)
    ((fontOf_eq_fontAt _ _).trans hf) hsrc ((ceil8_eq_up8 _).trans_lt hcol) hnone)

end Sys2Proof.Machine
end

section
/-! PROOFS. FILL_RECT and BITBLT24 (spec 42): what a rectangle and a run do to each pixel of the screen, and to the bytes
of a row by their masks. -/

namespace Sys2Proof.Machine

open Sys2Proof.Claims

/-! ## The engine step of a drawing command -/

/-- A host command that is ready and whose `Perform` gives `r` answers it completed (40 R135). -/
theorem runHost_eq_completed_of {s : State} {a : Snapshot} (h : Ready s a) {perform : Snapshot → State × ErrCode}
    {r : State × ErrCode} (hp : perform a = r) (hf : r.1.fatal = false) :
    runHost s perform = .next (completed r.2 r.1) := by
  subst hp
  exact runHost_eq_completed h hf

/-- Completion leaves FB as the command's work left it (40 R136). -/
@[simp] theorem completed_fb (e : ErrCode) (s : State) : (completed e s).fb = s.fb := by
  simp only [completed, ticked, apply_ite State.fb, ite_self]

/-! ## Rectangles (42 R180) -/

/-- A loop over what clipping leaves of an axis, of which only the pass at `p` changes what `g` reads. -/
theorem foldl_onAxis {γ : Type} (g : Memory → γ) (f : Memory → Nat → Memory) (k : γ → γ) {p limit : Nat}
    (hp : p < limit) (hf : ∀ m j, g (f m j) = if (j : Int) = p then k (g m) else g m) (lo : Int) (len : Nat)
    (m : Memory) :
    g ((onAxis lo len limit).foldl f m) = if within lo len p then k (g m) else g m := by
  have hpass : ∀ m j, g (if within lo len j then f m j else m) =
      if (0 : Int) + j = p then (if within lo len j then k (g m) else g m) else g m := by
    intro m j
    rw [apply_ite g, hf, Int.zero_add]
    split_ifs <;> rfl
  have hin : within 0 limit p = true := within_iff.mpr (by omega)
  have hloop := foldl_axis g _ (fun j d => if within lo len j then k d else d) hpass limit m
  rw [if_pos hin, Int.sub_zero, Int.toNat_natCast] at hloop
  rw [onAxis, List.foldl_filter]
  exact hloop

/-- What a rectangle does to each pixel of the screen (42 R180). -/
theorem pix_applyRect {px py : Nat} (hx : px < 400) (hy : py < 240) (op : PixOp) (x y : Int) (w h : Nat) (m : Memory) :
    pix (applyRect op x y w h m) px py =
      if within x w px && within y h py then combine op (pix m px py) false else pix m px py := by
  have hrow : ∀ m (j : Nat), pix ((onAxis x w Config.width).foldl (fun m (i : Nat) => applyPixel op i j false m) m) px py =
      if (j : Int) = py then
        (if within x w px then combine op (pix m px py) false else pix m px py)
      else pix m px py := by
    intro m j
    rw [foldl_onAxis (pix · px py) _ (fun d => if (j : Int) = py then combine op d false else d) hx
      (fun m i => pix_applyPixel hx hy op i j false m)]
    split_ifs <;> rfl
  refine (foldl_onAxis (pix · px py) _ (fun d => if within x w px then combine op d false else d) hy hrow y h m).trans ?_
  cases within x w px <;> simp

/-- A rectangle reaches no byte outside FB (40 R147). -/
theorem fbRead_applyRect_outside {n : Nat} (hn : Config.fbBytes ≤ n) (op : PixOp) (x y : Int) (w h : Nat) (m : Memory) :
    fbRead (applyRect op x y w h m) n = fbRead m n :=
  applyRect_keeps (fun k => fbRead k n = fbRead m n) (fun _ _ _ _ _ hk => (fbRead_applyPixel_outside hn).trans hk)
    op x y w h m rfl

/-- COLOR SET makes a pixel 1, EMPTY makes it 0, and INVERT complements it (42 R180). -/
theorem combine_rectOp (color : BitVec 2) (d b : Bool) :
    combine (rectOp color) d b = if color = 1#2 then true else if color = 0#2 then false else !d := by
  unfold rectOp
  split_ifs <;> rfl

theorem exec_fillRect_badColor {s : State} {a : Snapshot} (h : Ready s a) (hc : a.color = 3#2) :
    exec .fillRect s = .next (completed .badArg s) :=
  runHost_eq_completed_of (r := (s, .badArg)) h (if_pos hc) h.1

theorem exec_fillRect_drawn {s : State} {a : Snapshot} (h : Ready s a) (hc : a.color ≠ 3#2) :
    exec .fillRect s = .next (completed .none
      { s with fb := applyRect (rectOp a.color) a.xInt a.yInt a.wNat a.hNat s.fb }) :=
  runHost_eq_completed_of (r := (_, .none)) h (if_neg hc) h.1

/-- Settles O21: the two branches of FILL_RECT, and the pixels of its rectangle. -/
theorem fillRectPaintsRectangle : Obligations.FillRectPaintsRectangle := by
  refine ⟨by decide, fun s a h => ⟨exec_fillRect_badColor h, fun hc => ⟨_, exec_fillRect_drawn h hc, ?_, ?_⟩⟩⟩
  · intro px py hx hy
    rw [pix_applyRect hx hy, combine_rectOp]
    rfl
  · exact fun n hn => fbRead_applyRect_outside hn _ _ _ _ _ _

/-! ## Byte spans (42 R181) -/

/-- Bit 7 - i of byte k of a row is the row's pixel 8k + i (10 R21). -/
theorem getLsbD_fbRead_row (m : Memory) (py k : Nat) {i : Nat} (hi : i < 8) :
    (fbRead m (py * 50 + k)).getLsbD (7 - i) = pix m (8 * k + i) py := by
  have hbyte : (8 * k + i) / 8 = k := by omega
  have hbit : (8 * k + i) % 8 = i := by omega
  rw [pix, hbyte, hbit]

/-- Bytes alike in each of their pixels are equal. -/
theorem byte_eq_of_pixels {b c : Byte} (h : ∀ i, i < 8 → b.getLsbD (7 - i) = c.getLsbD (7 - i)) : b = c := by
  refine BitVec.eq_of_getLsbD_eq fun j hj => ?_
  have hj' : 7 - (7 - j) = j := by omega
  simpa only [hj'] using h (7 - j) (by omega)

/-- A mask gathered pixel by pixel holds those of the first `n` pixels that it was to take. -/
theorem getLsbD_foldl_mask (take : Nat → Prop) [DecidablePred take] {i : Nat} (hi : i < 8) {n : Nat} (hn : n ≤ 8) :
    ((List.range n).foldl (fun b j => if take j then b ||| (1#8 <<< (7 - j)) else b) 0x00#8).getLsbD (7 - i) =
      decide (i < n ∧ take i) := by
  induction n with
  | zero => simp
  | succ n ih =>
    have hbit : ∀ b : Byte, (b ||| (1#8 <<< (7 - n))).getLsbD (7 - i) = if i = n then true else b.getLsbD (7 - i) := by
      intro b
      have hpos : 7 - i = 7 - n ↔ i = n := by omega
      rw [← if_congr hpos rfl rfl]
      exact getLsbD_withBit b (7 - n) (7 - i) true (by omega) (by omega)
    rw [List.range_succ, List.foldl_append, List.foldl_cons, List.foldl_nil, apply_ite (BitVec.getLsbD · (7 - i)), hbit,
      ih (by omega)]
    by_cases hlast : i = n
    · subst hlast
      simp
    · have hlt : i < n + 1 ↔ i < n := by omega
      simp [hlast, hlt]

/-- The mask of a byte of a row, clipped to the row, holds the columns of the rectangle (42 R181). -/
theorem getLsbD_spanMask (x : Int) (w : Nat) {k i : Nat} (hk : k < 50) (hi : i < 8) :
    (spanMask (max x 0) (min (x + w) 400) k).getLsbD (7 - i) = within x w (8 * k + i) := by
  rw [spanMask, getLsbD_foldl_mask _ hi le_rfl, Bool.eq_iff_iff, decide_eq_true_iff, within_iff]
  omega

/-- OR, AND-NOT or XOR of a byte with a mask does to each bit under the mask what Apply does to a pixel, and leaves the
others (42 R181). -/
theorem getLsbD_spanByte (color : BitVec 2) (b mask : Byte) {j : Nat} (hj : j < 8) :
    (if color = 1#2 then b ||| mask else if color = 0#2 then b &&& ~~~mask else b ^^^ mask).getLsbD j =
      if mask.getLsbD j then combine (rectOp color) (b.getLsbD j) false else b.getLsbD j := by
  rw [combine_rectOp, apply_ite (BitVec.getLsbD · j), apply_ite (BitVec.getLsbD · j), BitVec.getLsbD_or,
    BitVec.getLsbD_and, BitVec.getLsbD_not, BitVec.getLsbD_xor, decide_eq_true hj]
  cases mask.getLsbD j <;> simp

/-- Settles O22: pixel by pixel, the masked byte and the rectangle agree. -/
theorem fillRectByteSpans : Obligations.FillRectByteSpans := by
  intro s t a h hc ht py k hy hk
  obtain rfl := Host.Outcome.next.inj ((exec_fillRect_drawn h hc).symm.trans ht)
  refine byte_eq_of_pixels fun i hi => ?_
  rw [completed_fb, getLsbD_fbRead_row _ _ _ hi, pix_applyRect (by omega) hy, apply_ite (BitVec.getLsbD · (7 - i)),
    getLsbD_spanByte _ _ _ (by omega), getLsbD_spanMask _ _ hk hi, getLsbD_fbRead_row _ _ _ hi, Snapshot.xInt,
    Snapshot.yInt, Snapshot.wNat, Snapshot.hNat]
  cases within a.y.toInt a.h.toNat py <;> simp

/-! ## Runs (42 R182, R183) -/

/-- What a run does to each pixel of the screen (42 R182). -/
theorem pix_applyRun {px py : Nat} (hx : px < 400) (hy : py < 240) (a : Snapshot) (n : Nat) (m : Memory) :
    pix (applyRun a n m) px py =
      if within a.xInt n px && decide ((py : Int) = a.yInt) then
        combine (runOp a.bltop) (pix m px py) (runBit a n ((px : Int) - a.xInt).toNat)
      else pix m px py := by
  rw [applyRun, pix_applyRow hx hy]
  by_cases hrow : (py : Int) = a.yInt
  · simp [hrow]
  · simp [hrow, Ne.symm hrow]

/-- A run reaches no byte outside FB (40 R147). -/
theorem fbRead_applyRun_outside {k : Nat} (hk : Config.fbBytes ≤ k) (a : Snapshot) (n : Nat) (m : Memory) :
    fbRead (applyRun a n m) k = fbRead m k :=
  applyRun_keeps (fun m' => fbRead m' k = fbRead m k) (fun _ _ _ _ _ hm => (fbRead_applyPixel_outside hk).trans hm)
    a n m rfl

/-- The run value is the low 24 bits of A.DATA (30 R98). -/
theorem getLsbD_run (a : Snapshot) {j : Nat} (hj : j < 24) : a.run.getLsbD j = a.data.getLsbD j := by
  simp [Snapshot.run, hj]

/-- OR, AND-NOT or XOR of a pixel with its bit of the run value, with FORCE in OR and AND-NOT a 1 (42 R182, R183). -/
theorem combine_runOp (a : Snapshot) {n i : Nat} (hn : n - 1 - i < 24) (d : Bool) :
    combine (runOp a.bltop) d (runBit a n i) =
      if a.bltop = 0#2 then d || (a.data.getLsbD (n - 1 - i) || a.force)
      else if a.bltop = 1#2 then d && !(a.data.getLsbD (n - 1 - i) || a.force)
      else Bool.xor d (a.data.getLsbD (n - 1 - i)) := by
  rw [runBit, runOp, getLsbD_run a hn]
  by_cases hor : a.bltop = 0#2
  · cases a.force <;> simp [hor, combine]
  by_cases handn : a.bltop = 1#2
  · cases a.force <;> simp [handn, combine]
  · simp [hor, handn, combine]

theorem exec_bitblt24_badArg {s : State} {a : Snapshot} (h : Ready s a) (hbad : a.bltop = 3#2 ∨ 24 < a.wNat) :
    exec .bitblt24 s = .next (completed .badArg s) := by
  refine runHost_eq_completed_of (r := (s, .badArg)) h ?_ h.1
  rw [← ite_or, if_pos hbad]

theorem exec_bitblt24_drawn {s : State} {a : Snapshot} (h : Ready s a) (hop : a.bltop ≠ 3#2) (hw : a.wNat ≤ 24) :
    exec .bitblt24 s = .next (completed .none { s with fb := applyRun a a.wNat s.fb }) :=
  runHost_eq_completed_of (r := (_, .none)) h ((if_neg hop).trans (if_neg (Nat.not_lt.mpr hw))) h.1

/-- Settles O23: the branches of BITBLT24, and the pixels of its run. -/
theorem bitblt24CombinesRun : Obligations.Bitblt24CombinesRun := by
  refine ⟨by decide, fun s a h => ⟨exec_bitblt24_badArg h, fun hop hw => ⟨_, exec_bitblt24_drawn h hop hw, ?_, ?_⟩⟩⟩
  · intro px py hx hy
    have hbit : a.wNat - 1 - ((px : Int) - a.xInt).toNat < 24 := by
      have : a.wNat ≤ 24 := hw
      omega
    rw [pix_applyRun hx hy, combine_runOp a hbit]
    rfl
  · exact fun n hn => fbRead_applyRun_outside hn _ _ _

end Sys2Proof.Machine
end

section
/-! PROOFS. DRAW_CHAR and DRAW_STRING (spec 43): what a glyph does to the screen, what each pass of the string loop
does, and the statements about characters and strings. -/

namespace Sys2Proof.Machine

open Sys2Proof.Claims

/-! ## Glyphs and columns (43 R211) -/

/-- A glyph does to the screen what the statements say (43 R211). -/
theorem blitted_drawGlyph (f : Font) (c : Nat) (x y : Int) (set : Bool) (m : Memory) :
    Blitted m (drawGlyph f c x y set m) (glyphByte f c) f.width f.height x y set false :=
  blitted_blitImage _ _ _ _ _ _ _ _

theorem font_width_le (f : Font) : f.width ≤ 255 := f.widthLessOne.isLt

/-- The character code is the low byte of A.DATA (30 R98). -/
theorem Snapshot.code_eq (a : Snapshot) : a.code = a.data.toNat % 256 := by simp [Snapshot.code]

/-- A column is at most 7 columns left of its byte-aligned one. -/
theorem ceil8_bounds (v : Int) : v ≤ ceil8 v ∧ ceil8 v ≤ v + 7 := by
  unfold ceil8
  omega

/-- Byte alignment is kept by a byte-aligned distance (43 R214). -/
theorem ceil8_add_ceil8 (u v w : Int) (k : Nat) :
    ceil8 (ceil8 u + k * ceil8 v + w) = ceil8 u + k * ceil8 v + ceil8 w := by
  unfold ceil8
  have hk : (k : Int) * (8 * ((v + 7) / 8)) = 8 * (k * ((v + 7) / 8)) := Int.mul_left_comm ..
  omega

theorem Snapshot.twoColor_ne_false {a : Snapshot} (h : a.color = 0#2 ∨ a.color = 1#2) : ¬ a.twoColor = false := by
  simp [Snapshot.twoColor_iff.mpr h]

/-! ## DRAW_CHAR (43 R212) -/

theorem exec_drawChar_badColor {s : State} {a : Snapshot} (h : Ready s a) (hc : a.color = 2#2 ∨ a.color = 3#2) :
    exec .drawChar s = .next (completed .badArg s) :=
  runHost_eq_completed_of (r := (s, .badArg)) h (if_pos (Snapshot.twoColor_eq_false hc)) h.1

theorem exec_drawChar_noFont {s : State} {a : Snapshot} (h : Ready s a) (hc : a.color = 0#2 ∨ a.color = 1#2)
    (hfont : fontAt s.build a.fontId = none) :
    exec .drawChar s = .next (completed .none { s with result := a.x.signExtend 32 }) := by
  refine runHost_eq_completed_of (r := (s.setResult a.xInt, .none)) h ?_ h.1
  rw [if_neg (Snapshot.twoColor_ne_false hc), fontOf_eq_fontAt, hfont]

theorem exec_drawChar_glyphRange {s : State} {a : Snapshot} {f : Font} (h : Ready s a)
    (hc : a.color = 0#2 ∨ a.color = 1#2) (hfont : fontAt s.build a.fontId = some f) (hcode : f.count ≤ a.code) :
    exec .drawChar s = .next (completed .glyphRange { s with result := a.x.signExtend 32 }) := by
  refine runHost_eq_completed_of (r := (s.setResult a.xInt, .glyphRange)) h ?_ h.1
  rw [if_neg (Snapshot.twoColor_ne_false hc), fontOf_eq_fontAt, hfont]
  exact if_pos hcode

theorem exec_drawChar_drawn {s : State} {a : Snapshot} {f : Font} (h : Ready s a)
    (hc : a.color = 0#2 ∨ a.color = 1#2) (hfont : fontAt s.build a.fontId = some f) (hcode : a.code < f.count) :
    exec .drawChar s = .next (completed .none
      { s with
        fb := drawGlyph f a.code (ceil8 a.xInt) a.yInt a.isSet s.fb
        result := BitVec.ofInt 32 (ceil8 a.xInt + f.width) }) := by
  refine runHost_eq_completed_of (r := (_, .none)) h ?_ h.1
  rw [if_neg (Snapshot.twoColor_ne_false hc), fontOf_eq_fontAt, hfont]
  exact if_neg (Nat.not_le.mpr hcode)

/-- DRAW_CHAR of a string's character, its other operands the string's, draws the glyph that the string's loop draws. -/
theorem exec_drawChar_character {s : State} {v : Word} {a : Snapshot} {f : Font} {c : Byte} (hf : s.fatal = false)
    (hc : a.color = 0#2 ∨ a.color = 1#2) (hfont : fontAt s.build a.fontId = some f) (hcode : c.toNat < f.count) :
    ∃ u, exec .drawChar { s with latch := .host v { a with data := c.setWidth 32 } } = .next u ∧
      u.fb = drawGlyph f c.toNat (ceil8 a.xInt) a.yInt a.isSet s.fb := by
  have hchar : ({ a with data := c.setWidth 32 } : Snapshot).code = c.toNat := by
    rw [Snapshot.code_eq, BitVec.toNat_setWidth_of_le (by decide), Nat.mod_eq_of_lt c.isLt]
  refine ⟨_, exec_drawChar_drawn ⟨hf, v, rfl⟩ hc hfont (hchar.trans_lt hcode), ?_⟩
  rw [completed_fb, hchar]
  rfl

/-- Settles O24: the four branches of DRAW_CHAR, and the pixels of its glyph. -/
theorem drawCharDrawsGlyph : Obligations.DrawCharDrawsGlyph := by
  refine ⟨by decide, fun s a h => ⟨exec_drawChar_badColor h, fun hc => ?_⟩⟩
  rw [← ceil8_eq_up8, ← Snapshot.code_eq]
  split
  · next hfont => exact exec_drawChar_noFont h hc hfont
  · next f hfont =>
    split
    · next hcode => exact exec_drawChar_glyphRange h hc hfont hcode
    · next hcode =>
      exact ⟨_, exec_drawChar_drawn h hc hfont (Nat.not_le.mp hcode), blitted_drawGlyph _ _ _ _ _ _⟩

/-! ## One pass of the string loop (43 R213) -/

section
variable {f : Font} {src : Memory} {y : Int} {set : Bool} {left p : Nat} {cur : Int} {m : Memory} {c : Byte}

/-- From column 400 on the loop stops, whatever SRC holds (43 R215, log 22). -/
theorem stringLoop_pastEdge (hcol : 400 ≤ ceil8 cur) : stringLoop f src y set left p cur m = some ⟨cur, m, .none⟩ := by
  have hcol : (Config.width : Int) ≤ ceil8 cur := hcol
  cases left with
  | zero => rw [stringLoop, if_pos hcol]
  | succ left => rw [stringLoop, if_pos hcol]

/-- At a terminator the loop stops, on screen and past the edge alike. -/
theorem stringLoop_terminator (hleft : 0 < left) (hread : srcRead src p = some 0x00#8) :
    stringLoop f src y set left p cur m = some ⟨cur, m, .none⟩ := by
  obtain ⟨left, rfl⟩ := Nat.exists_eq_succ_of_ne_zero hleft.ne'
  rw [stringLoop, hread]
  exact ite_self _

/-- On screen and with bytes of SRC left, a code that is no glyph's ends the loop. -/
theorem stringLoop_glyphRange (hleft : 0 < left) (hcol : ceil8 cur < 400) (hread : srcRead src p = some c)
    (hc : c ≠ 0x00#8) (hcode : f.count ≤ c.toNat) :
    stringLoop f src y set left p cur m = some ⟨cur, m, .glyphRange⟩ := by
  obtain ⟨left, rfl⟩ := Nat.exists_eq_succ_of_ne_zero hleft.ne'
  have hcol : ¬ (Config.width : Int) ≤ ceil8 cur := Int.not_le.mpr hcol
  rw [stringLoop, if_neg hcol, hread]
  exact (if_neg hc).trans (if_pos hcode)

/-- On screen and with bytes of SRC left, a glyph's code draws it and leaves the rest of the string. -/
theorem stringLoop_glyph (hleft : 0 < left) (hcol : ceil8 cur < 400) (hread : srcRead src p = some c)
    (hc : c ≠ 0x00#8) (hcode : c.toNat < f.count) :
    stringLoop f src y set left p cur m =
      stringLoop f src y set (left - 1) (p + 1) (ceil8 cur + f.width) (drawGlyph f c.toNat (ceil8 cur) y set m) := by
  obtain ⟨left, rfl⟩ := Nat.exists_eq_succ_of_ne_zero hleft.ne'
  have hcol : ¬ (Config.width : Int) ≤ ceil8 cur := Int.not_le.mpr hcol
  rw [stringLoop, if_neg hcol, hread]
  exact (if_neg hc).trans (if_neg (Nat.not_le.mpr hcode))

end

/-! ## DRAW_STRING runs the string loop (43 R213) -/

/-- What DRAW_STRING answers when its loop leaves `r`. -/
def stringOutcome (s : State) : Option StringEnd → Out
  | none => .fault .unwrittenSource
  | some e => .next (completed e.err { s with fb := e.fb, result := BitVec.ofInt 32 e.cur })

/-- The outcome does not depend on the FB or the operands that the loop started from. -/
theorem stringOutcome_update (s : State) (m : Memory) (l : Latch) (r : Option StringEnd) :
    stringOutcome { s with fb := m, latch := l } r = stringOutcome s r := by
  cases r <;> rfl

theorem exec_drawString_badColor {s : State} {a : Snapshot} (h : Ready s a) (hc : a.color = 2#2 ∨ a.color = 3#2) :
    exec .drawString s = .next (completed .badArg s) :=
  runHostSrc_eq_completed (r := (s, .badArg)) h (if_pos (Snapshot.twoColor_eq_false hc)) h.1

theorem exec_drawString_noFont {s : State} {a : Snapshot} (h : Ready s a) (hc : a.color = 0#2 ∨ a.color = 1#2)
    (hfont : fontAt s.build a.fontId = none) :
    exec .drawString s = .next (completed .none { s with result := a.x.signExtend 32 }) := by
  refine runHostSrc_eq_completed (r := (s.setResult a.xInt, .none)) h ?_ h.1
  rw [drawString, if_neg (Snapshot.twoColor_ne_false hc), fontOf_eq_fontAt, hfont]

theorem exec_drawString_srcRange {s : State} {a : Snapshot} {f : Font} (h : Ready s a)
    (hc : a.color = 0#2 ∨ a.color = 1#2) (hfont : fontAt s.build a.fontId = some f) (hsrc : 16384 ≤ a.srcNat) :
    exec .drawString s = .next (completed .srcRange { s with result := a.x.signExtend 32 }) := by
  refine runHostSrc_eq_completed (r := (s.setResult a.xInt, .srcRange)) h ?_ h.1
  rw [drawString, if_neg (Snapshot.twoColor_ne_false hc), fontOf_eq_fontAt, hfont]
  exact if_pos hsrc

/-- DRAW_STRING with a known font and an offset in SRC answers what its loop leaves. -/
theorem exec_drawString_of_loop {s : State} {a : Snapshot} {f : Font} (h : Ready s a)
    (hc : a.color = 0#2 ∨ a.color = 1#2) (hfont : fontAt s.build a.fontId = some f) (hsrc : a.srcNat < 16384)
    {r : Option StringEnd}
    (hloop : stringLoop f s.src a.yInt a.isSet (16384 - a.srcNat) a.srcNat a.xInt s.fb = r) :
    exec .drawString s = stringOutcome s r := by
  have hperform : drawString s a = r.map fun e => (({ s with fb := e.fb }).setResult e.cur, e.err) := by
    rw [drawString, if_neg (Snapshot.twoColor_ne_false hc), fontOf_eq_fontAt, hfont]
    dsimp only
    rw [if_neg (Nat.not_le.mpr hsrc), hloop]
    cases r <;> rfl
  cases r with
  | none => exact runHostSrc_unwritten h hperform
  | some e => exact runHostSrc_eq_completed h hperform h.1

/-- Settles O25: three branches before the loop, and the loop whose first byte is a terminator. -/
theorem drawStringDrawsNothing : Obligations.DrawStringDrawsNothing := by
  refine fun s a h => ⟨exec_drawString_badColor h, fun hc =>
    ⟨exec_drawString_noFont h hc, fun hfont hsrc => ?_, fun hfont hsrc hread => ?_⟩⟩
  · obtain ⟨f, hfont⟩ := Option.ne_none_iff_exists'.mp hfont
    exact exec_drawString_srcRange h hc hfont hsrc
  · obtain ⟨f, hfont⟩ := Option.ne_none_iff_exists'.mp hfont
    exact exec_drawString_of_loop h hc hfont hsrc (stringLoop_terminator (Nat.sub_pos_of_lt hsrc) hread)

/-! ## One character of a string (43 R213 to R215) -/

/-- The operands of the rest of a string hold its cursor, which is far from the ends of A.X. -/
theorem nextChar_xInt (a : Snapshot) (f : Font) (hcol : ceil8 a.xInt < 400) :
    (nextChar a (ceil8 a.xInt + f.width)).xInt = ceil8 a.xInt + f.width := by
  have hlow : -32768 ≤ a.xInt := BitVec.le_toInt a.x
  have hceil := ceil8_bounds a.xInt
  have hwidth := font_width_le f
  exact BitVec.toInt_ofInt_eq_self (by decide) (by omega) (by omega)

theorem nextChar_srcNat {a : Snapshot} (hsrc : a.srcNat < 16384) (cur : Int) :
    (nextChar a cur).srcNat = a.srcNat + 1 := by
  unfold nextChar Snapshot.srcNat at *
  bv_omega

/-- DRAW_STRING on the rest of a string, from FB `m`, runs the loop from the cursor after the character and the next
offset. -/
theorem exec_drawString_nextChar {s : State} {v : Word} {a : Snapshot} {f : Font} (hf : s.fatal = false)
    (hc : a.color = 0#2 ∨ a.color = 1#2) (hfont : fontAt s.build a.fontId = some f) (hsrc : a.srcNat + 1 < 16384)
    (hcol : ceil8 a.xInt < 400) (m : Memory) :
    exec .drawString { s with fb := m, latch := .host v (nextChar a (ceil8 a.xInt + f.width)) } =
      stringOutcome s (stringLoop f s.src a.yInt a.isSet (16384 - a.srcNat - 1) (a.srcNat + 1)
        (ceil8 a.xInt + f.width) m) := by
  have hsrcNat : (nextChar a (ceil8 a.xInt + f.width)).srcNat = a.srcNat + 1 :=
    nextChar_srcNat (Nat.lt_of_succ_lt hsrc) _
  have hready : Ready { s with fb := m, latch := .host v (nextChar a (ceil8 a.xInt + f.width)) } (nextChar a _) :=
    ⟨hf, v, rfl⟩
  rw [exec_drawString_of_loop hready hc hfont (hsrcNat.trans_lt hsrc) rfl, stringOutcome_update, hsrcNat,
    nextChar_xInt a f hcol]
  rfl

/-- Settles O26: one pass of the loop for each case. After a glyph the loop is that of DRAW_STRING on the rest, or, with
no byte of SRC left, at its end. -/
theorem drawStringTakesOneCharacter : Obligations.DrawStringTakesOneCharacter := by
  intro s v a f hf hl hc hfont hsrc
  have h : Ready s a := ⟨hf, v, hl⟩
  have hleft : 0 < 16384 - a.srcNat := Nat.sub_pos_of_lt hsrc
  simp only [← ceil8_eq_up8]
  refine ⟨fun hcol => ?_, fun c hread hcol => ⟨fun hzero => ?_, fun hzero hcode => ?_, fun hzero hcode => ?_⟩⟩
  · exact exec_drawString_of_loop h hc hfont hsrc (stringLoop_pastEdge hcol)
  · exact exec_drawString_of_loop h hc hfont hsrc (stringLoop_terminator hleft (hread.trans (congrArg some hzero)))
  · exact exec_drawString_of_loop h hc hfont hsrc (stringLoop_glyphRange hleft hcol hread hzero hcode)
  · have hloop := exec_drawString_of_loop h hc hfont hsrc (stringLoop_glyph hleft hcol hread hzero hcode)
    obtain ⟨u, hu, hfb⟩ := exec_drawChar_character (v := v) hf hc hfont hcode
    refine ⟨u, hu, fun hnext => ?_, fun hlast => ?_⟩
    · rw [hfb]
      exact hloop.trans (exec_drawString_nextChar hf hc hfont hnext hcol _).symm
    · have hend : 16384 - a.srcNat - 1 = 0 := by rw [Nat.sub_sub]; exact Nat.sub_eq_zero_of_le hlast.ge
      rw [hloop, hend, hfb]
      rfl

/-! ## A string written up to its terminator (43 R213, R217) -/

/-- `m'` is `m` but for the pixels of the screen in the `h` rows from `y` on. -/
def SameOffRows (y : Int) (h : Nat) (m m' : Memory) : Prop :=
  (∀ px py : Nat, px < 400 → py < 240 → within y h py = false → pix m' px py = pix m px py) ∧
  ∀ n, 12000 ≤ n → fbRead m' n = fbRead m n

theorem SameOffRows.refl (y : Int) (h : Nat) (m : Memory) : SameOffRows y h m m :=
  ⟨fun _ _ _ _ _ => rfl, fun _ _ => rfl⟩

theorem SameOffRows.trans {y : Int} {h : Nat} {m m' m'' : Memory} (h₁ : SameOffRows y h m m')
    (h₂ : SameOffRows y h m' m'') : SameOffRows y h m m'' :=
  ⟨fun px py hx hy hrow => (h₂.1 px py hx hy hrow).trans (h₁.1 px py hx hy hrow),
    fun n hn => (h₂.2 n hn).trans (h₁.2 n hn)⟩

/-- A glyph draws in its own rows only. -/
theorem sameOffRows_drawGlyph (f : Font) (c : Nat) (x y : Int) (set : Bool) (m : Memory) :
    SameOffRows y f.height m (drawGlyph f c x y set m) := by
  obtain ⟨hpix, hout⟩ := blitted_drawGlyph f c x y set m
  refine ⟨fun px py hx hy hrow => ?_, hout⟩
  rw [hpix px py hx hy, hrow]
  simp

/-- The loop over a string written up to a terminator meets no unwritten byte and no end of SRC, and draws in its glyphs'
rows only: each pass stops, or leaves a string one character shorter. -/
theorem stringLoop_written {f : Font} {src : Memory} {y : Int} {set : Bool} {n left p : Nat} {cur : Int} {m : Memory}
    (hleft : n < left) (hwritten : ∀ i, i ≤ n → srcRead src (p + i) ≠ none)
    (hread : srcRead src (p + n) = some 0x00#8) :
    ∃ e, stringLoop f src y set left p cur m = some e ∧ (e.err = .none ∨ e.err = .glyphRange) ∧
      SameOffRows y f.height m e.fb := by
  induction n generalizing left p cur m with
  | zero => exact ⟨_, stringLoop_terminator hleft hread, .inl rfl, .refl _ _ _⟩
  | succ n ih =>
    have hpos : 0 < left := by omega
    rcases le_or_gt 400 (ceil8 cur) with hcol | hcol
    · exact ⟨_, stringLoop_pastEdge hcol, .inl rfl, .refl _ _ _⟩
    obtain ⟨c, hc⟩ := Option.ne_none_iff_exists'.mp (hwritten 0 n.succ.zero_le)
    by_cases hzero : c = 0x00#8
    · exact ⟨_, stringLoop_terminator hpos (hc.trans (congrArg some hzero)), .inl rfl, .refl _ _ _⟩
    rcases le_or_gt f.count c.toNat with hcode | hcode
    · exact ⟨_, stringLoop_glyphRange hpos hcol hc hzero hcode, .inr rfl, .refl _ _ _⟩
    have hshift : ∀ i, p + (i + 1) = p + 1 + i := by omega
    obtain ⟨e, he, herr, hsame⟩ := ih (left := left - 1) (p := p + 1) (cur := ceil8 cur + f.width)
      (m := drawGlyph f c.toNat (ceil8 cur) y set m) (by omega)
      (fun i hi => hshift i ▸ hwritten (i + 1) (Nat.succ_le_succ hi)) (hshift n ▸ hread)
    exact ⟨e, (stringLoop_glyph hpos hcol hc hzero hcode).trans he, herr,
      (sameOffRows_drawGlyph _ _ _ _ _ _).trans hsame⟩

/-- Settles O27: with a known font by `stringLoop_written`; an unknown one draws nothing. -/
theorem terminatedStringCompletes : Obligations.TerminatedStringCompletes := by
  intro s a n h hc hsrc hwritten hread
  have hstart : a.srcNat < 16384 := (Nat.le_add_right _ n).trans_lt hsrc
  cases hfont : fontAt s.build a.font.toNat with
  | none =>
    exact ⟨s.fb, _, .none, exec_drawString_noFont h hc hfont, .inl rfl, fun _ _ _ _ _ => rfl, fun _ _ => rfl⟩
  | some f =>
    obtain ⟨e, he, herr, hpix, hout⟩ := stringLoop_written (f := f) (y := a.yInt) (set := a.isSet) (cur := a.xInt)
      (m := s.fb) (Nat.lt_sub_iff_add_lt'.mpr hsrc) hwritten hread
    exact ⟨e.fb, _, e.err, exec_drawString_of_loop h hc hfont hstart he, herr,
      fun px py hx hy hrow => hpix px py hx hy (hrow f rfl), hout⟩

/-! ## The columns of a string (43 R213, R214) -/

/-- FB after the first `i` glyphs of a string whose first one stands at column `x` (43 R214). -/
def glyphRun (f : Font) (code : Nat → Byte) (x y : Int) (set : Bool) (m : Memory) : Nat → Memory
  | 0 => m
  | i + 1 => drawGlyph f (code i).toNat (x + i * ceil8 f.width) y set (glyphRun f code x y set m i)

/-- After the glyphs 0 to n the loop stands W_f columns right of glyph n, the glyphs drawn ceil8(W_f) columns apart. -/
theorem stringLoop_glyphRun {f : Font} {src : Memory} {y : Int} {set : Bool} {n left p : Nat} {cur : Int} {m : Memory}
    {code : Nat → Byte} (hleft : n < left)
    (hread : ∀ i, i ≤ n → srcRead src (p + i) = some (code i) ∧ code i ≠ 0x00#8 ∧ (code i).toNat < f.count)
    (hcol : ceil8 cur + n * ceil8 f.width < 400) :
    stringLoop f src y set left p cur m =
      stringLoop f src y set (left - (n + 1)) (p + (n + 1)) (ceil8 cur + n * ceil8 f.width + f.width)
        (glyphRun f code (ceil8 cur) y set m (n + 1)) := by
  induction n with
  | zero =>
    obtain ⟨hc, hzero, hcode⟩ := hread 0 le_rfl
    refine (stringLoop_glyph hleft (by simpa using hcol) hc hzero hcode).trans ?_
    simp [glyphRun]
  | succ n ih =>
    obtain ⟨hc, hzero, hcode⟩ := hread (n + 1) le_rfl
    have hcolumn : ceil8 (ceil8 cur + n * ceil8 f.width + f.width) = ceil8 cur + ↑(n + 1) * ceil8 f.width := by
      rw [ceil8_add_ceil8]
      push_cast
      ring
    have hbefore : ceil8 cur + n * ceil8 f.width < 400 := by
      have hpos := ceil8_bounds f.width
      push_cast [add_mul] at hcol
      omega
    rw [ih (by omega) (fun i hi => hread i (Nat.le_succ_of_le hi)) hbefore,
      stringLoop_glyph (by omega) (hcolumn.trans_lt hcol) hc hzero hcode, hcolumn]
    rfl

/-- Settles O28: the stages are those of `glyphRun`, and the loop then meets the terminator. -/
theorem stringCursorSpacing : Obligations.StringCursorSpacing := by
  intro s a f n code h hc hfont hsrc hread hend hcol
  simp only [← ceil8_eq_up8] at hcol ⊢
  refine ⟨glyphRun f code (ceil8 a.xInt) a.yInt a.isSet s.fb, rfl, fun i _ => blitted_drawGlyph _ _ _ _ _ _, ?_⟩
  have hsrc : a.srcNat + (n + 1) < 16384 := hsrc
  have hloop := (stringLoop_glyphRun (y := a.yInt) (set := a.isSet) (m := s.fb) (left := 16384 - a.srcNat) (by omega)
    hread hcol).trans (stringLoop_terminator (by omega) hend)
  exact exec_drawString_of_loop h hc hfont (by omega) hloop

end Sys2Proof.Machine
end

section
/-! PROOFS. NOP and the whole-buffer commands CLEAR, FILL, INVERT and TEST_PATTERN (spec 44): the FB each leaves, byte by
byte or pixel by pixel, its engine step, and the laws of two commands one after the other (44 R245, R246). -/

namespace Sys2Proof.Machine

open Sys2Proof.Claims

/-! ## Whole buffers -/

@[simp] theorem fbRead_nil (n : Nat) : fbRead [] n = 0x00#8 := rfl

/-- A byte inside a tabulated FB. -/
theorem fbRead_fbTabulate_of_lt {n : Nat} (hn : n < 12000) (f : Nat → Byte) : fbRead (fbTabulate f) n = f n := by
  rw [fbRead_fbTabulate, if_pos hn]

/-- A canonical FB is the one tabulated from its own bytes (40 R147). -/
theorem fbTabulate_fbRead {m : Memory} (hm : FbCanonical m) : fbTabulate (fbRead m) = m := by
  refine fb_ext (fbTabulate_wf _) hm fun n => ?_
  rw [fbRead_fbTabulate]
  split
  · rfl
  · next hn => exact (fbRead_outside hm (Nat.not_lt.mp hn)).symm

/-- FB with every byte 0x00 is the FB that lists nothing (44 R243, R246). -/
theorem fbTabulate_zero : fbTabulate (fun _ => 0x00#8) = [] := by
  rw [← funext fbRead_nil, fbTabulate_fbRead (Memory.nil_wf _ _)]

/-- Only the bytes inside FB are tabulated. -/
theorem fbTabulate_congr {f g : Nat → Byte} (h : ∀ n, n < 12000 → f n = g n) : fbTabulate f = fbTabulate g := by
  refine fb_ext (fbTabulate_wf _) (fbTabulate_wf _) fun n => ?_
  rw [fbRead_fbTabulate, fbRead_fbTabulate]
  exact ite_congr rfl (h n) fun _ => rfl

/-- The complement of every byte, complemented again, is the FB it was (44 R245). -/
theorem fbTabulate_not_not {m : Memory} (hm : FbCanonical m) :
    fbTabulate (fun n => ~~~(fbRead (fbTabulate fun k => ~~~(fbRead m k)) n)) = m := by
  refine (fbTabulate_congr fun n hn => ?_).trans (fbTabulate_fbRead hm)
  rw [fbRead_fbTabulate_of_lt hn, BitVec.not_not]

/-- The statements' pixel of an FB given by its pixels (10 R21). -/
theorem pix_fbOfPixels {px py : Nat} (hx : px < 400) (hy : py < 240) (g : Nat → Nat → Bool) :
    pix (fbOfPixels g) px py = g px py := by
  have hon : OnScreen (px : Int) (py : Int) :=
    ⟨px.cast_nonneg, Int.ofNat_lt.mpr hx, py.cast_nonneg, Int.ofNat_lt.mpr hy⟩
  rw [pix_eq_getPixel, getPixel_fbOfPixels g hon, Int.toNat_natCast, Int.toNat_natCast]

/-- Below 1 the square size is 1, above 32 it is 32 (44 R241). -/
theorem squareSize_eq (data : Nat) : squareSize data = if data < 1 then 1 else if 32 < data then 32 else data := by
  unfold squareSize
  split_ifs <;> omega

/-! ## The engine step of each command (40 R135) -/

theorem exec_nop {s : State} {a : Snapshot} (h : Ready s a) : exec .nop s = .next (completed .none s) :=
  runHost_eq_completed h h.1

theorem exec_clear {s : State} {a : Snapshot} (h : Ready s a) :
    exec .clear s = .next (completed .none { s with fb := [] }) :=
  runHost_eq_completed h h.1

theorem exec_fill {s : State} {a : Snapshot} (h : Ready s a) (hc : a.color = 0#2 ∨ a.color = 1#2) :
    exec .fill s = .next (completed .none
      { s with fb := fbTabulate fun _ => if a.color = 1#2 then 0xFF#8 else 0x00#8 }) := by
  refine runHost_eq_completed_of (r := (_, .none)) h ?_ h.1
  rw [if_pos (Snapshot.twoColor_iff.mpr hc)]
  simp only [Snapshot.isSet, beq_iff_eq]

theorem exec_fill_badColor {s : State} {a : Snapshot} (h : Ready s a) (hc : a.color = 2#2 ∨ a.color = 3#2) :
    exec .fill s = .next (completed .badArg s) :=
  runHost_eq_completed_of (r := (s, .badArg)) h (if_neg (Bool.eq_false_iff.mp (Snapshot.twoColor_eq_false hc))) h.1

theorem exec_invert {s : State} {a : Snapshot} (h : Ready s a) :
    exec .invert s = .next (completed .none { s with fb := fbTabulate fun n => ~~~(fbRead s.fb n) }) :=
  runHost_eq_completed h h.1

theorem exec_testPattern {s : State} {a : Snapshot} (h : Ready s a) :
    exec .testPattern s = .next (completed .none { s with fb := fbOfPixels (checker (squareSize a.data.toNat)) }) :=
  runHost_eq_completed h h.1

/-! ## The statements -/

/-- Settles O9: NOP's `Perform` leaves the state as it is. -/
theorem nopOnlyCompletes : Obligations.NopOnlyCompletes :=
  ⟨by decide, fun _ _ h => exec_nop h⟩

/-- Settles O11: CLEAR leaves the FB that lists nothing. -/
theorem clearZeroesEveryByte : Obligations.ClearZeroesEveryByte :=
  ⟨by decide, fun _ _ h => ⟨[], exec_clear h, fbRead_nil⟩⟩

/-- Settles O12: the two branches of FILL, and the byte it tabulates for each legal colour. -/
theorem fillWritesEveryByte : Obligations.FillWritesEveryByte := by
  refine ⟨by decide, fun s a h => ⟨fun hc => ?_, fun hc => ?_, exec_fill_badColor h⟩⟩
  · refine ⟨_, exec_fill h (.inr hc), fun n hn => ?_⟩
    rw [fbRead_fbTabulate_of_lt hn, if_pos hc]
  · refine ⟨_, exec_fill h (.inl hc), fun n hn => ?_⟩
    rw [fbRead_fbTabulate_of_lt hn, if_neg (by simp [hc])]

/-- Settles O13: INVERT tabulates the complements. -/
theorem invertComplementsEveryByte : Obligations.InvertComplementsEveryByte :=
  ⟨by decide, fun _ _ h => ⟨_, exec_invert h, fun _ hn => fbRead_fbTabulate_of_lt hn _⟩⟩

/-- Settles O14: TEST_PATTERN gives each pixel by the checkerboard of the clamped square size. -/
theorem testPatternIsCheckerboard : Obligations.TestPatternIsCheckerboard := by
  refine ⟨by decide, fun s a h => ⟨_, exec_testPattern h, fun px py hx hy => ?_⟩⟩
  rw [pix_fbOfPixels hx hy, squareSize_eq]
  rfl

/-- Settles O15: INVERT twice tabulates each byte's complement's complement; the invariant gives FB's canonical form. -/
theorem invertTwiceRestores : Obligations.InvertTwiceRestores := by
  intro s t u a b hs ha ht hb hfb
  obtain rfl := Host.Outcome.next.inj ((exec_invert ha).symm.trans ht)
  refine ⟨_, exec_invert hb, ?_⟩
  simp only [completed_fb, hfb, fbTabulate_not_not hs.fbWf]

/-- Settles O16: FILL with EMPTY leaves the FB that lists nothing, whatever FB was; so does CLEAR. -/
theorem fillSetThenEmptyIsClear : Obligations.FillSetThenEmptyIsClear := by
  intro s t u w a b c _ _ _ hu hc _ hw
  refine ⟨_, _, exec_fill hu (.inl hc), exec_clear hw, ?_⟩
  have hempty : b.color ≠ 1#2 := by simp [hc]
  simp only [completed_fb, if_neg hempty, fbTabulate_zero]

end Sys2Proof.Machine
end

section
/-! PROOFS. REFRESH and WRITE_LINE (spec 45): the rows and the length of each frame, the engine step of the two commands,
and the statements about the frames they send. -/

namespace Sys2Proof.Machine

open Sys2Proof.Claims

/-! ## The length of a frame (30 R103, R104) -/

@[simp] theorem length_fbRow (fb : Memory) (r : Nat) : (fbRow fb r).length = 50 := by
  rw [fbRow, List.length_map, List.length_range]

theorem length_lineFrame (r : Nat) (data : List Byte) : (lineFrame r data).length = data.length + 4 := by
  simp only [lineFrame, List.length_append, List.length_cons, List.length_nil]
  omega

theorem length_chunkFrame {rowData : Nat → List Byte} (hrow : ∀ r, r < 240 → (rowData r).length = 50) {r0 n : Nat}
    (h : r0 + n ≤ 240) : (chunkFrame r0 n rowData).length = 2 + 52 * n := by
  rw [chunkFrame_eq, List.length_cons, List.length_append, length_chunkBody hrow h, List.length_singleton]
  omega

/-! ## The chunks of REFRESH (45 R271, R272) -/

/-- Chunk j is one of REFRESH's just when its first row is a row of the panel. -/
theorem lt_chunkCount_iff {c : Nat} (hc : 0 < c) (j : Nat) : j < chunkCount c ↔ j * c < 240 := by
  have hdiv : j < chunkCount c ↔ (j + 1) * c ≤ 240 + c - 1 := Nat.le_div_iff_mul_le hc
  rw [hdiv, Nat.succ_mul]
  omega

theorem chunkLines_pos (b : Build) : 0 < b.chunkLines := Nat.succ_pos _

theorem length_chunkFrom (fb : Memory) (c : Nat) {r0 : Nat} (h : r0 < 240) :
    (chunkFrom fb c r0).length = 2 + 52 * min c (240 - r0) :=
  length_chunkFrame (fun r _ => length_fbRow fb r) (show r0 + min c (240 - r0) ≤ 240 by omega)

/-- The first k chunks hold the first k * C rows of the panel, and two bytes more each. -/
theorem sum_length_chunks (fb : Memory) {c : Nat} (hc : 0 < c) {k : Nat} (hk : k ≤ chunkCount c) :
    (((List.range k).map fun j => chunkFrom fb c (j * c)).map List.length).sum = 2 * k + 52 * min 240 (k * c) := by
  induction k with
  | zero => simp
  | succ k ih =>
    have hrow : k * c < 240 := (lt_chunkCount_iff hc k).mp hk
    simp only [List.range_succ, List.map_append, List.map_cons, List.map_nil, List.sum_append, List.sum_singleton,
      ih (by omega), length_chunkFrom fb c hrow, Nat.succ_mul]
    omega

/-- The frames of REFRESH hold every row once (45 R272). -/
theorem sum_length_refreshFrames (fb : Memory) {c : Nat} (hc : 0 < c) :
    ((refreshFrames fb c).map List.length).sum = 1 + 2 * chunkCount c + 52 * 240 := by
  have hall : 240 ≤ chunkCount c * c := Nat.not_lt.mp ((lt_chunkCount_iff hc _).not.mp (Nat.lt_irrefl _))
  rw [refreshFrames, List.map_cons, List.sum_cons, sum_length_chunks fb hc le_rfl, Nat.min_eq_left hall, primingFrame,
    List.length_singleton, Nat.add_assoc]

theorem getElem?_refreshFrames_succ (fb : Memory) {c : Nat} (hc : 0 < c) {j : Nat} (hj : j * c < 240) :
    (refreshFrames fb c)[j + 1]? = some (chunkFrom fb c (j * c)) := by
  rw [refreshFrames, List.getElem?_cons_succ, List.getElem?_map,
    List.getElem?_range ((lt_chunkCount_iff hc j).mpr hj), Option.map_some]

/-- In chunks of one line the frames are line frames (45 R278). -/
theorem refreshFrames_one (fb : Memory) :
    refreshFrames fb 1 = primingFrame :: (List.range 240).map fun r => lineFrame r (fbRow fb r) := by
  have hcount : chunkCount 1 = 240 := by decide
  rw [refreshFrames, hcount]
  refine congrArg (primingFrame :: ·) (List.map_congr_left fun r hr => ?_)
  have hr : r < 240 := List.mem_range.mp hr
  have hn : min 1 (Config.height - r) = 1 := Nat.min_eq_left (Nat.sub_pos_of_lt hr)
  rw [Nat.mul_one, chunkFrom, hn, chunkFrame_one]

/-! ## The engine step of each command (40 R135) -/

/-- Completion leaves TXLOG as the command's work left it (40 R136). -/
@[simp] theorem completed_txLog (e : ErrCode) (s : State) : (completed e s).txLog = s.txLog := by
  simp only [completed, ticked, apply_ite State.txLog, ite_self]

theorem exec_refresh {s : State} {a : Snapshot} (h : Ready s a) :
    exec .refresh s = .next (completed .none (s.transmitAll (refreshFrames s.fb s.build.chunkLines))) :=
  runHost_eq_completed h h.1

theorem exec_writeLine_offScreen {s : State} {a : Snapshot} (h : Ready s a) (hy : a.yInt < 0 ∨ 240 ≤ a.yInt) :
    exec .writeLine s = .next (completed .none s) :=
  runHost_eq_completed_of (r := (s, .none)) h (if_pos hy) h.1

theorem exec_writeLine_onScreen {s : State} {a : Snapshot} (h : Ready s a) {r : Nat} (hr : r < 240)
    (hy : a.yInt = r) : exec .writeLine s = .next (completed .none (s.transmit (lineFrame r (fbRow s.fb r)))) := by
  have hrow : ¬(a.yInt < 0 ∨ 240 ≤ a.yInt) := by omega
  obtain rfl : r = a.yInt.toNat := by omega
  exact runHost_eq_completed_of (r := (_, .none)) h (if_neg hrow) h.1

/-! ## The statements -/

/-- Settles O30: frame j + 1 is the chunk from row j * C, whose lines are its rows laid out one after another. -/
theorem refreshSendsChunks : Obligations.RefreshSendsChunks := by
  refine ⟨by decide, fun s a h => ⟨refreshFrames s.fb s.build.chunkLines, exec_refresh h, ?_, rfl, fun j hj => ?_⟩⟩
  · rw [refreshFrames, List.length_cons, List.length_map, List.length_range, Nat.add_comm]
    rfl
  · have hn : min (j * s.build.chunkLines + s.build.chunkLines) 240 - j * s.build.chunkLines =
        min s.build.chunkLines (240 - j * s.build.chunkLines) := by omega
    rw [hn]
    refine ⟨_, getElem?_refreshFrames_succ s.fb (chunkLines_pos _) hj, length_chunkFrom s.fb _ hj, ?_⟩
    rw [chunkFrom, chunkFrame, List.flatMap_def]
    rfl

/-- Settles O31: REFRESH appends `refreshFrames`, of which `sum_length_refreshFrames` gives the length. -/
theorem refreshTotalBytes : Obligations.RefreshTotalBytes := by
  intro s t a h ht
  obtain rfl := Host.Outcome.next.inj ((exec_refresh h).symm.trans ht)
  rw [completed_txLog, State.transmitAll_txLog, List.drop_left]
  exact sum_length_refreshFrames s.fb (chunkLines_pos _)

/-- Settles O32: the chunks are line frames, by `refreshFrames_one`. -/
theorem refreshByOneIsWriteLines : Obligations.RefreshByOneIsWriteLines := by
  intro s a h hone lines
  rw [exec_refresh h, hone, refreshFrames_one, List.append_assoc]
  rfl

/-- Settles O33: the two branches of WRITE_LINE, and the length of a line frame. -/
theorem writeLineSendsRow : Obligations.WriteLineSendsRow := by
  refine ⟨by decide, fun s a h => ⟨fun hy => exec_writeLine_offScreen h hy, fun r hr hy => ⟨?_, ?_⟩⟩⟩
  · exact (length_lineFrame r (fbRow s.fb r)).trans (by rw [length_fbRow])
  · exact exec_writeLine_onScreen h hr hy

end Sys2Proof.Machine
end

section
/-! PROOFS. Power, ticks, keep-alive (spec 46): the two ends of PowerOnSeq and of a power command, the three fates of a
wake tick, and the counting of ticks to the idle timeout. -/

namespace Sys2Proof.Machine

open Sys2Proof.Claims

/-! ## POWER_ON and POWER_OFF (46 R301 to R305) -/

/-- A host command that is ready and whose work ends in FATAL answers that work, without completion (46 R316). -/
theorem runHost_eq_halted {s : State} {a : Snapshot} (h : Ready s a) {perform : Snapshot → State × ErrCode}
    (hf : (perform a).1.fatal = true) : runHost s perform = .next (perform a).1 := by
  obtain ⟨hs, v, hl⟩ := h
  rw [runHost_ready hs hl, finishHost_of_fatal hf]

/-- PowerOnSeq halted by a failure drawn at one of its points (46 R302, R316). -/
theorem powerOnSeq_halted {s : State} (h : failPoint s < 4) :
    powerOnSeq s = { s with
      fatal := true
      pinLog := s.pinLog ++
        ([(.boostEn, true), (.dispEn, true), (.extcominEn, true), (.wakeArm, true)] : List (Pin × Bool)).take
          (failPoint s)
      pins := { boostEn := s.pins.boostEn || decide (1 ≤ failPoint s)
                dispEn := s.pins.dispEn || decide (2 ≤ failPoint s)
                extcominEn := s.pins.extcominEn || decide (3 ≤ failPoint s)
                wakeArm := s.pins.wakeArm } } := by
  cases hp : s.periph with
  | none => simp [failPoint, hp] at h
  | some k =>
    have hk : k.val < 4 := by simpa [failPoint, hp] using h
    fin_cases k <;> simp [powerOnSeq, powerStage, failPoint, hp, State.setPin, State.halt] at hk ⊢

/-- PowerOnSeq run to its end, which a failure at point 4 does not hinder (46 R302; log 4). -/
theorem powerOnSeq_completed {s : State} (h : ¬ failPoint s < 4) :
    powerOnSeq s = { s with
      pinLog := s.pinLog ++ [(.boostEn, true), (.dispEn, true), (.extcominEn, true), (.wakeArm, true)]
      pins := ⟨true, true, true, true⟩
      isOn := true
      idle := 0#16 } := by
  have hdraw : ∀ j < 4, s.periph.map Fin.val ≠ some j := by
    intro j hj hp
    refine h ?_
    obtain ⟨k, hk, rfl⟩ := Option.map_eq_some_iff.mp hp
    simpa [failPoint, hk] using hj
  simp [powerOnSeq, powerStage, hdraw, State.setPin]

/-- POWER_ON that is ready answers what PowerOnSeq leaves, completed unless that is FATAL (46 R301, R316). -/
theorem exec_powerOn_of_fatal {s : State} {a : Snapshot} (h : Ready s a) (hf : (powerOnSeq s).fatal = true) :
    exec .powerOn s = .next (powerOnSeq s) :=
  runHost_eq_halted h hf

theorem exec_powerOn_of_alive {s : State} {a : Snapshot} (h : Ready s a) (hf : (powerOnSeq s).fatal = false) :
    exec .powerOn s = .next (completed .none (powerOnSeq s)) :=
  runHost_eq_completed h hf

/-- Settles O35: the two ends of PowerOnSeq, of which only the second is completed. -/
theorem powerOnSequence : Obligations.PowerOnSequence := by
  refine ⟨by decide, fun s a h => ?_⟩
  dsimp only
  split
  · next hk =>
    have hseq := powerOnSeq_halted hk
    rw [exec_powerOn_of_fatal h (by rw [hseq]), hseq]
  · next hk =>
    have hseq := powerOnSeq_completed hk
    rw [exec_powerOn_of_alive h (by rw [hseq]; exact h.1), hseq]

/-- POWER_OFF that is ready has no work while OFF (46 R305). -/
theorem exec_powerOff_of_off {s : State} {a : Snapshot} (h : Ready s a) (hoff : s.isOn = false) :
    exec .powerOff s = .next (completed .none s) :=
  runHost_eq_completed_of (r := (s, .none)) h (by simp [hoff]) h.1

/-- While ON its work is PowerOffSeq (46 R303). -/
theorem exec_powerOff_of_on {s : State} (hon : s.isOn = true) :
    exec .powerOff s = runHost s fun a => (powerOffSeq a.clr s, .none) := by
  simp [exec, execPowerOff, hon]

/-- POWER_OFF while ON answers what PowerOffSeq leaves, completed unless that is FATAL (46 R303, R316). -/
theorem exec_powerOff_of_fatal {s : State} {a : Snapshot} (h : Ready s a) (hon : s.isOn = true)
    (hf : (powerOffSeq a.clr s).fatal = true) : exec .powerOff s = .next (powerOffSeq a.clr s) :=
  (exec_powerOff_of_on hon).trans (runHost_eq_halted h hf)

theorem exec_powerOff_of_alive {s : State} {a : Snapshot} (h : Ready s a) (hon : s.isOn = true)
    (hf : (powerOffSeq a.clr s).fatal = false) :
    exec .powerOff s = .next (completed .none (powerOffSeq a.clr s)) :=
  (exec_powerOff_of_on hon).trans (runHost_eq_completed h hf)

/-- Settles O36: no work while OFF; while ON the two ends of PowerOffSeq, of which only the second is completed. -/
theorem powerOffSequence : Obligations.PowerOffSequence := by
  refine ⟨by decide, fun s a h => ⟨exec_powerOff_of_off h, fun hon hk => ?_, fun hon hk => ?_⟩⟩
  · have hseq := powerOffSeq_halted hk a.clr
    rw [exec_powerOff_of_fatal h hon (by rw [hseq]), hseq]
    rfl
  · have hseq := powerOffSeq_completed (Nat.not_lt.mpr hk.ge) a.clr
    rw [exec_powerOff_of_alive h hon (by rw [hseq]; exact h.1), hseq]
    rfl

/-! ## Wake ticks and keep-alive (46 R306 to R312) -/

theorem onWakeTick_of_off {s : State} (hoff : s.isOn = false) : onWakeTick s = s := by
  simp [onWakeTick, hoff]

theorem onWakeTick_of_busy {s : State} (hf : s.fatal = false) (hon : s.isOn = true) (hl : s.latch ≠ .empty) :
    onWakeTick s = if s.tickPend then s.raise irqTovf else { s with tickPend := true } := by
  simp [onWakeTick, hf, hon, State.busy_of_latched hl]

theorem onWakeTick_of_idle {s : State} (hf : s.fatal = false) (hon : s.isOn = true) (hl : s.latch = .empty) :
    onWakeTick s = processTick s := by
  simp [onWakeTick, hf, hon, State.busy_eq_false.mpr hl]

/-- Settles O38: by FATAL and ON, then BUSY. -/
theorem wakeTickOutcomes : Obligations.WakeTickOutcomes := by
  intro s
  refine congrArg Host.Outcome.next ?_
  split
  · next hoff => exact hoff.elim onWakeTick_of_fatal onWakeTick_of_off
  · next hoff =>
    obtain ⟨hf, hon⟩ : s.fatal = false ∧ s.isOn = true := by simpa using hoff
    split
    · next hl => exact onWakeTick_of_busy hf hon hl
    · next hl => rw [onWakeTick_of_idle hf hon (not_not.mp hl), processTick_eq_ticked]

/-- A KEEPALIVE write writes IDLE alone, and only while FATAL = 0 (46 R312). -/
theorem keepAlive_eq (s : State) : keepAlive s = { s with idle := if s.fatal then s.idle else 0#16 } := by
  unfold keepAlive
  split <;> rfl

/-- Settles O39: the keep-alive, and the reply OKAY. -/
theorem keepaliveZeroesIdle : Obligations.KeepaliveZeroesIdle :=
  fun s _ => congrArg (fun t : State => Host.Outcome.next (t.reply okayWrite)) (keepAlive_eq s)

/-! ## Runs of steps -/

theorem runs_succ {s t : State} (h : step s = .next t) (k : Nat) : runs (k + 1) s = runs k t := by
  have h : core.step s = .next t := h
  simp only [runs, Host.Core.run, h]
  rfl

theorem runs_add {j : Nat} {s t : State} (h : runs j s = .next t) (k : Nat) : runs (j + k) s = runs k t := by
  induction j generalizing s with
  | zero =>
    cases h
    rw [Nat.zero_add]
  | succ j ih =>
    cases hs : step s with
    | next u =>
      rw [runs_succ hs] at h
      rw [Nat.succ_add, runs_succ hs, ih h]
    | fault r | refused r => simp [runs, Host.Core.run, show core.step s = _ from hs] at h

/-! ## The idle timeout (46 R309 to R311, R321) -/

/-- The display is on, nothing is latched, no failure is to come, and IDLE counts `n` ticks. -/
structure Counting (n : Nat) (s : State) : Prop where
  isOn : s.isOn = true
  fatal : s.fatal = false
  latch : s.latch = .empty
  periph : s.periph = none
  idle : s.idle.toNat = n

/-- The events to come do not enter the count. -/
theorem Counting.withAgenda {n : Nat} {s : State} (h : Counting n s) (events : List Event) :
    Counting n { s with agenda := events } := { h with }

theorem toNat_idle_succ {s : State} (h : s.idle.toNat < 300) : (s.idle + 1#16).toNat = s.idle.toNat + 1 := by
  have hone : (1#16).toNat = 1 := rfl
  rw [BitVec.toNat_add, hone, Nat.mod_eq_of_lt (by omega)]

theorem Counting.step_tick {n : Nat} {s : State} {rest : List Event} (h : Counting n s)
    (ha : s.agenda = .tick :: rest) : step s = .next (processTick { s with agenda := rest }) := by
  have h := h.withAgenda rest
  exact (step_event ha).trans (congrArg _ (onWakeTick_of_idle h.fatal h.isOn h.latch))

/-- Before the 300th, a tick is one more counted (46 R309). -/
theorem Counting.next_tick {n : Nat} {s : State} (h : Counting n s) (hn : n < 299) :
    Counting (n + 1) (processTick s) := by
  obtain ⟨hon, hf, hl, hp, rfl⟩ := h
  have hidle := toNat_idle_succ (s := s) (by omega)
  refine ⟨by simpa, by simpa, ?_, by simpa, by simpa using hidle⟩
  rw [processTick_latch, if_neg (by rw [hidle, Config.offTimeout]; omega), hl]

/-- A run of ticks that ends before the 300th counts them and sends nothing. -/
theorem Counting.runs_ticks {m : Nat} {s : State} {rest : List Event} (h : Counting m s) (n : Nat) (hn : m + n ≤ 299)
    (ha : s.agenda = List.replicate n .tick ++ rest) :
    ∃ t, runs n s = .next t ∧ Counting (m + n) t ∧ t.agenda = rest ∧ t.txLog = s.txLog := by
  induction n generalizing m s with
  | zero => exact ⟨s, rfl, h, ha, rfl⟩
  | succ n ih =>
    obtain ⟨t, hrun, ht, hrest, htx⟩ := ih ((h.withAgenda _).next_tick (by omega)) (by omega) (processTick_agenda _)
    refine ⟨t, (runs_succ (h.step_tick ha) n).trans hrun, ?_, hrest, by simpa using htx⟩
    rwa [Nat.add_right_comm, Nat.add_assoc] at ht

/-- The 300th tick latches AUTO_OFF (46 R310). -/
theorem Counting.processTick_expires {s : State} (h : Counting 299 s) :
    (processTick s).idle.toNat = 300 ∧ (processTick s).latch = .autoOff := by
  have hidle : (s.idle + 1#16).toNat = 300 := by rw [toNat_idle_succ (by simp [h.idle]), h.idle]
  simp [hidle, Config.offTimeout]

/-- From a count of 0, 300 ticks run to the state that the last of them leaves. -/
theorem Counting.runs_300_ticks {s : State} (h : Counting 0 s) (ha : s.agenda = List.replicate 300 .tick) :
    ∃ t, Counting 299 t ∧ t.agenda = [] ∧ t.txLog = s.txLog ∧ runs 300 s = .next (processTick t) := by
  obtain ⟨t, hrun, ht, hagenda, htx⟩ := h.runs_ticks (rest := [.tick]) 299 le_rfl (by rw [ha, List.replicate_succ'])
  exact ⟨_, ht.withAgenda [], rfl, htx, (runs_add hrun 1).trans (runs_succ (ht.step_tick hagenda) 0)⟩

/-- The step after the 300th tick runs AUTO_OFF to its end (46 R304, R310). -/
theorem Counting.step_expired {s : State} (h : Counting 299 s) (ha : s.agenda = []) :
    ∃ t, step (processTick s) = .next t ∧ t.isOn = false ∧ t.latch = .empty ∧ t.idle.toNat = 300 ∧
      t.txLog = s.txLog ++ [[0x04#8, 0x00#8]] ∧ t.irqStatus.getLsbD 3 = true ∧
      t.pins = ⟨false, false, false, false⟩ := by
  obtain ⟨hidle, hlatch⟩ := h.processTick_expires
  have hfatal : (processTick s).fatal = false := by simpa using h.fatal
  have hnone : ¬ failPoint (processTick s) < 5 := by simp [failPoint, h.periph]
  have hexec := autoOffSequence _ hfatal hlatch
  rw [if_neg hnone] at hexec
  have hstep := stepRunsAutoOff.1 _ (by simpa using ha) hfatal hlatch
  exact ⟨_, hstep.trans hexec, rfl, rfl, hidle, by simp, by simp, rfl⟩

/-- A KEEPALIVE write starts the count again (46 R312). -/
theorem Counting.step_keepalive {n : Nat} {s : State} {rest : List Event} {v : Word} (h : Counting n s)
    (ha : s.agenda = .access (.write 0x48#16 .b4 v) :: rest) :
    ∃ t, step s = .next t ∧ Counting 0 t ∧ t.agenda = rest := by
  have hidle : (if s.fatal then s.idle else 0#16).toNat = 0 := by simp [h.fatal]
  exact ⟨_, (stepRunsTickAndKeepalive.2 s rest v ha).trans (keepaliveZeroesIdle _ v), { h with idle := hidle }, rfl⟩

/-- Settles O40: ticks counted one by one up to 299; the 300th latches AUTO_OFF; a keep-alive starts the count again. -/
theorem idleTimeoutProperty : Obligations.IdleTimeoutProperty := by
  intro s v hon hf hl _ hidle hp
  have h : Counting 0 s := ⟨hon, hf, hl, hp, by simp [hidle]⟩
  obtain ⟨u, hu, hagenda, htx, hrun⟩ := (h.withAgenda (List.replicate 300 .tick)).runs_300_ticks rfl
  obtain ⟨huidle, hulatch⟩ := hu.processTick_expires
  refine ⟨fun n hn => ?_, ⟨_, hrun, by simpa using hu.isOn, huidle, hulatch⟩, ?_, ?_⟩
  · obtain ⟨t, hrun, ht, -, htx⟩ :=
      (h.withAgenda (List.replicate n .tick)).runs_ticks (rest := []) n (by omega) (by simp)
    exact ⟨t, hrun, ht.isOn, by simpa using ht.idle, ht.latch, htx⟩
  · obtain ⟨t, hstep, hoff, hlatch, hidle, htx', hirq, hpins⟩ := hu.step_expired hagenda
    exact ⟨t, (runs_add hrun 1).trans (runs_succ hstep 0), hoff, hlatch, hidle, htx ▸ htx', hirq, hpins⟩
  · obtain ⟨t₁, hrun₁, h₁, ha₁, -⟩ := (h.withAgenda (keepAliveBetween v)).runs_ticks 150 (by omega) rfl
    obtain ⟨t₂, hstep, h₂, ha₂⟩ := h₁.step_keepalive ha₁
    obtain ⟨t₃, hrun₃, h₃, -⟩ := h₂.runs_ticks (rest := []) 299 (by omega) (ha₂.trans (List.append_nil _).symm)
    refine ⟨t₃, ?_, h₃.isOn, h₃.idle, h₃.latch⟩
    exact (runs_add hrun₁ 300).trans ((runs_succ hstep 299).trans hrun₃)

/-! ## FATAL (46 R317, 60 R355) -/

theorem runHost_of_fatal {s : State} (hf : s.fatal = true) (perform : Snapshot → State × ErrCode) :
    runHost s perform = .fault .fatalHalt := if_pos hf

theorem runHostSrc_of_fatal {s : State} (hf : s.fatal = true) (perform : Snapshot → Option (State × ErrCode)) :
    runHostSrc s perform = .fault .fatalHalt := if_pos hf

/-- Settles O41: both forms of the engine step of a host command, and AUTO_OFF, test FATAL first. -/
theorem fatalStopsEngine : Obligations.FatalStopsEngine := by
  rintro i s (hi | rfl) hf
  · obtain ⟨perform, he⟩ | ⟨perform, he⟩ := exec_command hi s
    · rw [he, runHost_of_fatal hf]
    · rw [he, runHostSrc_of_fatal hf]
  · exact if_pos hf

end Sys2Proof.Machine
end

section
/-! PROOFS. Reset: the machine it leaves, as a start of a run and as a step (spec 70 R380 to R383). -/

namespace Sys2Proof.Machine

open Sys2Proof.Claims

/-- Settles O1. -/
theorem resetMeetsInv : Obligations.ResetMeetsInv := inv_reset

/-! ## The registers after the reset step (70 R380) -/

/-- ID, GEOM, PARAM and SRCSIZE are constants of the build (10 R25 to R28). -/
theorem readReg_constant {r : Reg} (hr : r = .id ∨ r = .geom ∨ r = .param ∨ r = .srcSize) {s t : State}
    (hb : s.build = t.build) : readReg r s = readReg r t := by
  obtain rfl | rfl | rfl | rfl := hr
  · rfl
  · rfl
  · exact congrArg paramWord hb
  · rfl

theorem statusWord_resetStep (s : State) : statusWord (resetStep s) = 0#32 :=
  have hreset : statusWord State.reset = 0#32 := by decide
  hreset

theorem irqOut_resetStep (s : State) : irqOut (resetStep s) = false :=
  have hreset : irqOut State.reset = false := by decide
  hreset

/-- The other registers read a field that reset clears, or nothing. -/
theorem readReg_resetStep {r : Reg} (hid : r ≠ .id) (hgeom : r ≠ .geom) (hparam : r ≠ .param) (hsrc : r ≠ .srcSize)
    (s : State) : readReg r (resetStep s) = 0#32 := by
  cases r with
  | id | geom | param | srcSize => contradiction
  | status => exact statusWord_resetStep s
  | argMode => exact BitVec.zero_and
  | _ => rfl

/-! ## The pins that fall (70 R383) -/

theorem fall_eq_filter (p : Pin) (v : Bool) :
    (if v then [(p, false)] else []) = ([(p, v)].filter (·.2)).map (fun q => (q.1, false)) := by
  cases v <;> rfl

/-- The pins that fall are those that were 1, in the order DISP_EN, EXTCOMIN_EN, BOOST_EN, WAKE_ARM. -/
theorem resetFalls_eq_filter (p : PinLevels) :
    resetFalls p =
      (([(.dispEn, p.dispEn), (.extcominEn, p.extcominEn), (.boostEn, p.boostEn), (.wakeArm, p.wakeArm)] :
        List (Pin × Bool)).filter (·.2)).map (fun q => (q.1, false)) := by
  simp only [resetFalls, fall_eq_filter, ← List.map_append, ← List.filter_append]
  rfl

/-- Settles O2: the event runs `resetStep` on the state with the rest of the agenda; its FB and SRC list nothing. -/
theorem resetStepLeavesResetValues : Obligations.ResetStepLeavesResetValues := by
  intro s rest ha
  refine ⟨resetStep { s with agenda := rest }, step_event ha, fbRead_nil, fun _ => rfl, ?_,
    fun r hr => readReg_constant hr rfl, rfl, irqOut_resetStep _, rfl, rfl, ?_, rfl, rfl⟩
  · exact fun r hid hgeom hparam hsrc => readReg_resetStep hid hgeom hparam hsrc _
  · exact congrArg (s.pinLog ++ ·) (resetFalls_eq_filter s.pins)

end Sys2Proof.Machine
end
